-- ==== Sys2Proof/Word.lean ====
section
/-! DEFINITION. The widths of the unit's values (00_scope.md R2, 20_memory.md R55). -/

namespace Sys2Proof

/-- A datapath value: an unsigned integer of `W` = 64 bits (00_scope.md R2). Bit 0 is the least
significant bit (R4); `+`, `-` and `*` on it are `+64`, `-64` and `*64`, `%` is `mod`, and `<` is the
unsigned comparison (R5). -/
abbrev Word := BitVec 64

/-- A command word, the value of the port `CMD` (30_encoding.md R71). -/
abbrev CmdWord := BitVec 32

/-- How many words the register file `MT.word` has (10_state.md R21). The parameter `NN`, how many of them the
engine works on, is the configuration's (`Config.nn`). -/
abbrev nn : Nat := 312

/-- The state vector `MT.word[0..311]` (10_state.md R21). -/
abbrev MtVec := Vector Word nn

end Sys2Proof
end

