-- ==== Sys2Proof/Config.lean ====
section
/-! DEFINITION. The configuration record of 00_scope.md section 4 (R3): fixed for the life of a unit,
no command changes it, and it is no part of State. Its values are in Machine/Constants.lean. -/

namespace Sys2Proof

/-- `TWIST_ODD_TEST`: which value the twist tests for oddness (41_mersenne_twister.md R133, R136). -/
inductive OddTest where
  /-- bit 0 of `x >> 1`, the normative test -/
  | postShift
  /-- bit 0 of `x`, only in the alternative configuration of 93_implementation_defined.md G2 -/
  | preShift
  deriving DecidableEq, Repr

/-- The parameters of 00_scope.md section 4, a field each (92_eei_decisions.md D15), but for `seed_source`,
which is outside the unit (log entry 11). The machine takes the record as a parameter of its step
(Machine/Configured.lean), and no state holds it (R3). -/
structure Config where
  /-- `W`, the width of every datapath value (R2) -/
  w : Nat
  /-- `NN`, the number of words in the Mersenne Twister state vector -/
  nn : Nat
  /-- `MM`, the twist offset -/
  mm : Nat
  /-- `SEED_MULT` -/
  seedMult : Word
  /-- `SEED_SHIFT` -/
  seedShift : Nat
  /-- `SEED_MASK` -/
  seedMask : Word
  /-- `LOWER_MASK` -/
  lowerMask : Word
  /-- `UPPER_MASK` -/
  upperMask : Word
  /-- `MATRIX_A` -/
  matrixA : Word
  /-- `TWIST_ODD_TEST` -/
  twistOddTest : OddTest
  /-- `T_U`, the shift of tempering step 1 -/
  tU : Nat
  /-- `T_D`, the mask of tempering step 1 -/
  tD : Word
  /-- `T_S`, the shift of tempering step 2 -/
  tS : Nat
  /-- `T_B`, the mask of tempering step 2 -/
  tB : Word
  /-- `T_T`, the shift of tempering step 3 -/
  tT : Nat
  /-- `T_C`, the mask of tempering step 3 -/
  tC : Word
  /-- `T_L`, the shift of tempering step 4 -/
  tL : Nat
  /-- `OUT_MASK` -/
  outMask : Word
  /-- `XS_A`, the first Xorshift* shift (right) -/
  xsA : Nat
  /-- `XS_B`, the second Xorshift* shift (left) -/
  xsB : Nat
  /-- `XS_C`, the third Xorshift* shift (right) -/
  xsC : Nat
  /-- `XS_MULT` -/
  xsMult : Word
  /-- `DIE_SHAPES`, in the order of the shape codes 0 to 6 (43_die.md R191) -/
  dieShapes : Vector Word 7
  deriving DecidableEq, Repr

/-- The configurations that the unit's registers can hold (10_state.md R20 to R25): values of 64 bits, and a
state vector of at most 312 words. -/
structure Config.Fits (c : Config) : Prop where
  /-- every register of the datapath has 64 bits (R21, R23, R25) -/
  width : c.w = 64
  /-- there is a word to draw -/
  some_word : 0 < c.nn
  /-- `MT.word` has 312 words, and `MT.cursor` counts up to 312 (R21, R22) -/
  words_fit : c.nn ≤ 312

end Sys2Proof
end

