-- ==== Sys2Proof/Syntax.lean ====
section
/-! DEFINITION. The 22 commands (30_encoding.md R87), their formats (R73), and the fields of a
command word (R72). -/

namespace Sys2Proof

/-- The generator variant a construct command names (30_encoding.md R76). -/
inductive Engine where
  /-- Mersenne Twister -/
  | mt
  /-- Xorshift* -/
  | xs
  deriving DecidableEq, Repr

/-- The seven fixed die shapes (30_encoding.md R77). -/
inductive Shape where
  | d4 | d6 | d8 | d10 | d12 | d20 | d100
  deriving DecidableEq, Repr

/-- One constructor per row of spec/opcode_table.json. Every bit of a legal word is fixed (30_encoding.md
R87), so no constructor has an argument: the numeric operands arrive on the ports (R78). -/
inductive Instr where
  | constructMt | constructXs
  | next | nextb | nextb0
  | dieMt | dieXs
  | dieMtD4 | dieMtD6 | dieMtD8 | dieMtD10 | dieMtD12 | dieMtD20 | dieMtD100
  | dieXsD4 | dieXsD6 | dieXsD8 | dieXsD10 | dieXsD12 | dieXsD20 | dieXsD100
  | roll
  deriving DecidableEq, Repr

/-- The command formats (30_encoding.md R73): which fields and ports a command uses. -/
inductive Format where
  | f0 | fv | fa | fab | fva | fvs
  deriving DecidableEq, Repr

/-- The four fields of a command word (30_encoding.md R72). -/
structure CommandFields where
  /-- `OPC`, bits 7:0 -/
  opc : BitVec 8
  /-- `V`, bits 9:8 -/
  v : BitVec 2
  /-- `S`, bits 12:10 -/
  s : BitVec 3
  /-- `RSV`, bits 31:13 -/
  rsv : BitVec 19
  deriving DecidableEq, Repr

/-- Why a word is illegal (30_encoding.md R80). Every one of them raises the one fault `IllegalCommand`;
the name is for the reader. -/
inductive IllegalWord where
  /-- `RSV != 0` -/
  | reservedBits
  /-- `OPC` is 0x00 or 0x08 to 0xFF -/
  | unassignedOpcode
  /-- a wrong `V` for the opcode -/
  | variantField
  /-- a wrong `S` for the opcode -/
  | shapeField
  deriving DecidableEq, Repr

end Sys2Proof
end

