-- ==== Sys2Proof/WellFormed.lean ====
section
/-! DEFINITION. Which field values make a legal command, check by check, from the list of illegal
words in 30_encoding.md R80 (the decoder is written from R79 instead). -/

namespace Sys2Proof.CommandFields

/-- `RSV` must be 0 (30_encoding.md R72, R80). -/
def reservedZero (f : CommandFields) : Bool := f.rsv == 0#19

/-- The opcode is one of 0x01 to 0x07 (30_encoding.md R75, R80). -/
def opcodeAssigned (f : CommandFields) : Bool := 1 ≤ f.opc.toNat && f.opc.toNat ≤ 7

/-- CONSTRUCT, DIE and DIE.Dn are the commands that take a variant (30_encoding.md R76). -/
def takesVariant (f : CommandFields) : Bool :=
  f.opc == 0x01#8 || f.opc == 0x05#8 || f.opc == 0x06#8

/-- `V` is 0b01 or 0b10 in a command that takes a variant, and 0 in every other (30_encoding.md R80). -/
def variantLegal (f : CommandFields) : Bool :=
  if f.takesVariant then f.v == 0b01#2 || f.v == 0b10#2 else f.v == 0#2

/-- `S` is not 0b111 in DIE.Dn, and 0 in every other command (30_encoding.md R80). -/
def shapeLegal (f : CommandFields) : Bool :=
  if f.opc == 0x06#8 then f.s != 0b111#3 else f.s == 0#3

/-- A word with these fields is none of the illegal words of 30_encoding.md R80. -/
def wellFormed (f : CommandFields) : Bool :=
  f.reservedZero && f.opcodeAssigned && f.variantLegal && f.shapeLegal

end Sys2Proof.CommandFields
end

