-- ==== Sys2Proof/Decode.lean ====
section
/-! DEFINITION. Decoding a 32-bit command word (30_encoding.md R79), total, rejecting by name; and after
it the encoder (R87), written from the table of legal words. -/

namespace Sys2Proof

/-- The fields of a command word, at the bit positions of 30_encoding.md R72. -/
def fieldsOf (w : CmdWord) : CommandFields where
  opc := w.extractLsb' 0 8
  v := w.extractLsb' 8 2
  s := w.extractLsb' 10 3
  rsv := w.extractLsb' 13 19

/-- The variant a field `V` names (30_encoding.md R76). -/
def engineOf (v : BitVec 2) : Except IllegalWord Engine :=
  if v = 0b01#2 then .ok .mt
  else if v = 0b10#2 then .ok .xs
  else .error .variantField

/-- The shape a field `S` names (30_encoding.md R77). -/
def shapeOf (s : BitVec 3) : Except IllegalWord Shape :=
  if s = 0b000#3 then .ok .d4
  else if s = 0b001#3 then .ok .d6
  else if s = 0b010#3 then .ok .d8
  else if s = 0b011#3 then .ok .d10
  else if s = 0b100#3 then .ok .d12
  else if s = 0b101#3 then .ok .d20
  else if s = 0b110#3 then .ok .d100
  else .error .shapeField

/-- CONSTRUCT of a variant. -/
def constructOf : Engine → Instr
  | .mt => .constructMt
  | .xs => .constructXs

/-- DIE of a variant. -/
def dieOf : Engine → Instr
  | .mt => .dieMt
  | .xs => .dieXs

/-- DIE.Dn of a variant and a shape. -/
def dieFixedOf : Engine → Shape → Instr
  | .mt, .d4 => .dieMtD4
  | .mt, .d6 => .dieMtD6
  | .mt, .d8 => .dieMtD8
  | .mt, .d10 => .dieMtD10
  | .mt, .d12 => .dieMtD12
  | .mt, .d20 => .dieMtD20
  | .mt, .d100 => .dieMtD100
  | .xs, .d4 => .dieXsD4
  | .xs, .d6 => .dieXsD6
  | .xs, .d8 => .dieXsD8
  | .xs, .d10 => .dieXsD10
  | .xs, .d12 => .dieXsD12
  | .xs, .d20 => .dieXsD20
  | .xs, .d100 => .dieXsD100

/-- A command whose format lists neither `V` nor `S`: both must be 0 (30_encoding.md R73). -/
def plainCommand (f : CommandFields) (i : Instr) : Except IllegalWord Instr :=
  if f.v ≠ 0#2 then .error .variantField
  else if f.s ≠ 0#3 then .error .shapeField
  else .ok i

/-- A command whose format lists `V` and not `S` (30_encoding.md R73). -/
def variantCommand (f : CommandFields) (i : Engine → Instr) : Except IllegalWord Instr :=
  match engineOf f.v with
  | .error e => .error e
  | .ok e => if f.s ≠ 0#3 then .error .shapeField else .ok (i e)

/-- DIE.Dn, whose format lists `V` and `S` (30_encoding.md R73). -/
def shapeCommand (f : CommandFields) : Except IllegalWord Instr :=
  match engineOf f.v, shapeOf f.s with
  | .error e, _ => .error e
  | .ok _, .error e => .error e
  | .ok e, .ok sh => .ok (dieFixedOf e sh)

/-- `Decode(CMD)` on the fields (30_encoding.md R79). -/
def decodeFields (f : CommandFields) : Except IllegalWord Instr :=
  if f.rsv ≠ 0#19 then .error .reservedBits
  else if f.opc = 0x01#8 then variantCommand f constructOf
  else if f.opc = 0x02#8 then plainCommand f .next
  else if f.opc = 0x03#8 then plainCommand f .nextb
  else if f.opc = 0x04#8 then plainCommand f .nextb0
  else if f.opc = 0x05#8 then variantCommand f dieOf
  else if f.opc = 0x06#8 then shapeCommand f
  else if f.opc = 0x07#8 then plainCommand f .roll
  else .error .unassignedOpcode

/-- `Decode(CMD)` (30_encoding.md R79): it reads only the command word (R83). -/
def decode (w : CmdWord) : Except IllegalWord Instr := decodeFields (fieldsOf w)

/-- The columns `OPC`, `V` and `S` of the table of legal words (30_encoding.md R87). -/
def encodeFields : Instr → CommandFields
  | .constructMt => ⟨0x01, 0b01, 0b000, 0⟩
  | .constructXs => ⟨0x01, 0b10, 0b000, 0⟩
  | .next => ⟨0x02, 0b00, 0b000, 0⟩
  | .nextb => ⟨0x03, 0b00, 0b000, 0⟩
  | .nextb0 => ⟨0x04, 0b00, 0b000, 0⟩
  | .dieMt => ⟨0x05, 0b01, 0b000, 0⟩
  | .dieXs => ⟨0x05, 0b10, 0b000, 0⟩
  | .dieMtD4 => ⟨0x06, 0b01, 0b000, 0⟩
  | .dieMtD6 => ⟨0x06, 0b01, 0b001, 0⟩
  | .dieMtD8 => ⟨0x06, 0b01, 0b010, 0⟩
  | .dieMtD10 => ⟨0x06, 0b01, 0b011, 0⟩
  | .dieMtD12 => ⟨0x06, 0b01, 0b100, 0⟩
  | .dieMtD20 => ⟨0x06, 0b01, 0b101, 0⟩
  | .dieMtD100 => ⟨0x06, 0b01, 0b110, 0⟩
  | .dieXsD4 => ⟨0x06, 0b10, 0b000, 0⟩
  | .dieXsD6 => ⟨0x06, 0b10, 0b001, 0⟩
  | .dieXsD8 => ⟨0x06, 0b10, 0b010, 0⟩
  | .dieXsD10 => ⟨0x06, 0b10, 0b011, 0⟩
  | .dieXsD12 => ⟨0x06, 0b10, 0b100, 0⟩
  | .dieXsD20 => ⟨0x06, 0b10, 0b101, 0⟩
  | .dieXsD100 => ⟨0x06, 0b10, 0b110, 0⟩
  | .roll => ⟨0x07, 0b00, 0b000, 0⟩

/-- The word of given fields: each at its position of 30_encoding.md R72. -/
def packFields (f : CommandFields) : CmdWord :=
  f.opc.setWidth 32 ||| (f.v.setWidth 32 <<< 8) ||| (f.s.setWidth 32 <<< 10) |||
    (f.rsv.setWidth 32 <<< 13)

/-- The word of a command: `OPC | (V << 8) | (S << 10)` (30_encoding.md R87). -/
def encode (i : Instr) : CmdWord := packFields (encodeFields i)

/-- An instruction is well-formed when its fields are (30_encoding.md R80). -/
def Instr.wellFormed (i : Instr) : Bool := (encodeFields i).wellFormed

/-- What the decoder reads from a table row's bits `w`, `nbits` of them, the bits above being 0. A command
is one word of 32 bits carried whole, with no byte order (30_encoding.md R71, 20_memory.md R53). -/
def decodeTableWord (nbits w : Nat) : Option Instr :=
  match decode (BitVec.ofNat 32 (w % 2 ^ nbits)) with
  | .ok i => some i
  | .error _ => none

end Sys2Proof
end

