-- ==== Sys2Proof/Machine/State.lean ====
section
/-! DEFINITION. The unit's registers (10_state.md), the host's side of its ports, and the state after
reset (10_state.md R35). Plain data throughout. -/

namespace Sys2Proof.Machine

/-- `VARIANT` (10_state.md R20): which generator the unit holds. The value 3 is never held, so it is no
value of the type. -/
inductive Variant where
  /-- 0: no generator constructed since reset -/
  | none
  /-- 1: Mersenne Twister -/
  | mt
  /-- 2: Xorshift* -/
  | xs
  deriving DecidableEq, Repr

/-- The fault causes (60_exceptions.md R221). -/
inductive Cause where
  | arithmeticError
  | clockError
  | illegalCommand
  | notConstructed
  | rangeInverted
  | sidesOverflow
  | noDie
  deriving DecidableEq, Repr

/-- The input ports (10_state.md R28): a command is this tuple (30_encoding.md R70). -/
structure Ports where
  /-- `CMD` -/
  cmd : CmdWord
  /-- `OPA` -/
  opa : Word
  /-- `OPB` -/
  opb : Word
  /-- `SEED`, driven by the Seed Source (60_exceptions.md R241): a draw, any value -/
  seed : Word
  /-- `SEED_VALID`: the Seed Source produced a valid time -/
  seedValid : Bool
  deriving DecidableEq, Repr

/-- Between commands the model holds 0 on every port field; no rule reads them then (log entry 2). -/
def Ports.idle : Ports := ⟨0#32, 0#64, 0#64, 0#64, false⟩

/-- What the host can do (70_reset_and_hazards.md R275); each move is one step, in issue order. -/
inductive HostMove where
  /-- issue a command with these port values -/
  | issue (p : Ports)
  /-- drive `RESET` high (R260) -/
  | assertReset
  /-- drive `RESET` low again -/
  | releaseReset
  /-- remove and restore power, which acts as a reset (R261) -/
  | powerCycle
  /-- read `RES` (10_state.md R29) -/
  | readRes
  /-- read `STATUS` (10_state.md R30) -/
  | readStatus
  /-- read `FAULT_CMD` (10_state.md R31) -/
  | readFaultCmd
  deriving DecidableEq, Repr

/-- What a host read hands back, each moved whole at its own width (20_memory.md R55). -/
inductive HostReply where
  | res (v : Word)
  | status (v : BitVec 32)
  | faultCmd (v : CmdWord)
  deriving DecidableEq, Repr

/-- Why the model stops: something that holds no value was read. All are SAFE: no value is invented.
None of them is a fault of the unit, whose faults (60_exceptions.md R221) are next states. -/
inductive Fault where
  /-- Raised by a host read of `RES` while `RES_VALID = 0` (10_state.md R29: a model must fault it). Safe. -/
  | resHoldsNoValue
  /-- Raised by a draw with `VARIANT = MT` and no state vector or no cursor. No run reaches such a state
  (10_state.md R24, 93 I19). Safe. -/
  | mtHoldsNoValue
  /-- Raised by a draw with `VARIANT = XS` and no `XS.state`. No run reaches such a state. Safe. -/
  | xsHoldsNoValue
  /-- Raised by ROLL with `DIE_VALID = 1` and no `SIDES`. No run reaches such a state. Safe. -/
  | sidesHoldsNoValue
  /-- Raised by `Next()` with `VARIANT = NONE`, which no command calls (40_capability.md R104). Safe. -/
  | noGenerator
  deriving DecidableEq, Repr

/-- Why an instruction has no meaning. -/
inductive Refusal where
  /-- Raised by an arm of exec whose instruction has no meaning yet. There is none. Safe. -/
  | notModelled (mnemonic : String)
  deriving DecidableEq, Repr

/-- The unit's registers, one field each under the spec's name, and the host's side. `none` is the spec's
"no value" (10_state.md R24, R35). `STATUS` is computed from the registers it mirrors (Machine/Flags.lean). -/
structure State where
  /-- `VARIANT` (10_state.md R20) -/
  variant : Variant
  /-- `MT.word[0..311]` (10_state.md R21) -/
  mtWord : Option MtVec
  /-- `MT.cursor` (10_state.md R22) -/
  mtCursor : Option (BitVec 9)
  /-- `XS.state` (10_state.md R23) -/
  xsState : Option Word
  /-- `SIDES` (10_state.md R25) -/
  sides : Option Word
  /-- `DIE_VALID` (10_state.md R26) -/
  dieValid : Bool
  /-- `RES` (10_state.md R29) -/
  res : Option Word
  /-- `RES_VALID` (10_state.md R29) -/
  resValid : Bool
  /-- `STATUS.FAULT` (10_state.md R30) -/
  fault : Bool
  /-- `STATUS.CAUSE` (10_state.md R30) -/
  cause : BitVec 4
  /-- `FAULT_CMD` (10_state.md R31) -/
  faultCmd : CmdWord
  /-- the level of the `RESET` input (70_reset_and_hazards.md R260) -/
  resetPin : Bool
  /-- the model's own: the ports as sampled for the command being executed (30_encoding.md R70) -/
  ports : Ports
  /-- the model's own: the host's pending moves, first one first -/
  inbox : List HostMove
  /-- the model's own: what the last host read handed back -/
  hostRead : Option HostReply
  deriving DecidableEq, Repr

/-- The state after reset (10_state.md R35, 70_reset_and_hazards.md R260, 95 V95), with `RESET` released
and no host move pending. Power-on leaves the same state (R261). -/
def State.reset : State where
  variant := .none
  mtWord := none
  mtCursor := none
  xsState := none
  sides := none
  dieValid := false
  res := none
  resValid := false
  fault := false
  cause := 0#4
  faultCmd := 0#32
  resetPin := false
  ports := Ports.idle
  inbox := []
  hostRead := none

end Sys2Proof.Machine
end

