-- ==== Sys2Proof/Machine/Constants.lean ====
section
/-! DEFINITION. The values of the configuration record: the normative column (00_scope.md section 4) and
the canonical one of 93_implementation_defined.md G2, for audit only. -/

namespace Sys2Proof

/-- The normative configuration: the document's literals (00_scope.md section 4; 41_mersenne_twister.md
R130 to R133, R140, R141; 42_xorshift.md R170; 43_die.md R191). -/
def Config.normative : Config where
  w := 64
  nn := 312
  mm := 156
  seedMult := 6364136223846793005#64
  seedShift := 29
  seedMask := 0x000000007FFFFFFF#64
  lowerMask := 0x000000007FFFFFFF#64
  upperMask := 0xFFFFFFFF7FFFFFFF#64
  matrixA := 0xB5026F5AA96619E9#64
  twistOddTest := .postShift
  tU := 29
  tD := 0x5555555555555555#64
  tS := 17
  tB := 0x71D67FFFEDA60000#64
  tT := 37
  tC := 0xFFF7EEE000000000#64
  tL := 43
  outMask := 0x000000007FFFFFFF#64
  xsA := 12
  xsB := 25
  xsC := 27
  xsMult := 0x2545F4914F6CDD1D#64
  dieShapes := #v[4#64, 6#64, 8#64, 10#64, 12#64, 20#64, 100#64]

/-- The canonical MT19937-64 literals (93_implementation_defined.md G2, general knowledge and not in the
source). NOT the configuration of this hardware (41_mersenne_twister.md R146). -/
def Config.canonical : Config :=
  { Config.normative with
    seedShift := 62
    seedMask := 0xFFFFFFFFFFFFFFFF#64
    upperMask := 0xFFFFFFFF80000000#64
    twistOddTest := .preShift
    outMask := 0xFFFFFFFFFFFFFFFF#64 }

/-- The configuration the unit runs with (41_mersenne_twister.md R146). -/
def Config.unit : Config := Config.normative

end Sys2Proof
end

