-- ==== Sys2Proof/Machine/Ops.lean ====
section
/-! DEFINITION. The named updates of the unit's registers, the access to the state vector, raising a
fault (60_exceptions.md R222), and reset, the only way back from one (R223, R224). -/

namespace Sys2Proof

/-- `MT.word[i mod 312]`: an index names one of the register file's 312 words (10_state.md R21, 20_memory.md
R51). -/
def MtVec.word (v : MtVec) (i : Nat) : Word := v[i % nn]'(Nat.mod_lt _ (by decide))

/-- `MT.word[i mod 312] <- x`. -/
def MtVec.setWord (v : MtVec) (i : Nat) (x : Word) : MtVec :=
  v.set (i % nn) x (Nat.mod_lt _ (by decide))

end Sys2Proof

namespace Sys2Proof.Machine

/-- What a meaning or a step answers. -/
abbrev Result := Host.Outcome State Fault Refusal

/-- Apply `f` to the next state of an outcome, and keep a stop as it is. -/
def mapNext (f : State → State) : Result → Result
  | .next s => .next (f s)
  | .fault e => .fault e
  | .refused r => .refused r

/-- The unit takes up Mersenne Twister state; `XS.state` then holds no value (10_state.md R24). -/
def State.holdMt (s : State) (v : MtVec) (k : BitVec 9) : State :=
  { s with variant := .mt, mtWord := some v, mtCursor := some k, xsState := none }

/-- The unit takes up Xorshift* state; `MT.word` and `MT.cursor` then hold no value (10_state.md R24). -/
def State.holdXs (s : State) (x : Word) : State :=
  { s with variant := .xs, mtWord := none, mtCursor := none, xsState := some x }

/-- A draw rewrites the Mersenne Twister state and nothing else (41_mersenne_twister.md R142). -/
def State.writeMt (s : State) (v : MtVec) (k : BitVec 9) : State :=
  { s with mtWord := some v, mtCursor := some k }

/-- A draw rewrites the Xorshift* state and nothing else (42_xorshift.md R171). -/
def State.writeXs (s : State) (x : Word) : State := { s with xsState := some x }

/-- The unit now holds a die (43_die.md R192). -/
def State.holdDie (s : State) (n : Word) : State := { s with sides := some n, dieValid := true }

/-- The unit now holds a bare generator (40_capability.md R102). -/
def State.dropDie (s : State) : State := { s with sides := none, dieValid := false }

/-- `RES <- v; RES_VALID <- 1` (10_state.md R29). -/
def State.writeRes (s : State) (v : Word) : State := { s with res := some v, resValid := true }

/-- The codes of the causes (60_exceptions.md R221). -/
def Cause.code : Cause → BitVec 4
  | .arithmeticError => 1
  | .clockError => 2
  | .illegalCommand => 3
  | .notConstructed => 4
  | .rangeInverted => 5
  | .sidesOverflow => 6
  | .noDie => 7

/-- `raise C` (60_exceptions.md R222): the fault record is written and nothing else. There is no vector,
no saved program counter and no handler; the unit halts. -/
def State.raise (s : State) (c : Cause) : State :=
  { s with fault := true, cause := c.code, faultCmd := s.ports.cmd }

/-- A meaning that raises a fault ends in the state after the entry (60_exceptions.md R222). -/
def trap (c : Cause) (s : State) : Result := .next (s.raise c)

/-- Reset (70_reset_and_hazards.md R260): every register of the unit takes its reset value (10_state.md
R35), a halted unit too. The host's side stays: what it has pending, what it last read, and the level it
drives on `RESET`. There is no other return from a fault (60_exceptions.md R224). -/
def State.resetUnit (s : State) : State :=
  { State.reset with resetPin := s.resetPin, inbox := s.inbox, hostRead := s.hostRead }

/-- The host drives `RESET`. -/
def State.driveReset (s : State) (level : Bool) : State := { s with resetPin := level }

/-- While `RESET` is asserted every register takes its reset value (70_reset_and_hazards.md R260). -/
def State.holdInReset (s : State) : State := if s.resetPin then s.resetUnit else s

/-- The unit accepts a command: the five ports are sampled once (30_encoding.md R70). -/
def State.accept (s : State) (p : Ports) : State := { s with ports := p }

/-- The command has completed: the sampled values are gone (10_state.md R28: the ports are no state). -/
def State.release (s : State) : State := { s with ports := Ports.idle }

/-- The host's pending moves after the first one is taken up. -/
def State.setInbox (s : State) (l : List HostMove) : State := { s with inbox := l }

/-- A host read hands back a value; nothing of the unit changes (20_memory.md R56). -/
def State.reply (s : State) (r : HostReply) : State := { s with hostRead := some r }

end Sys2Proof.Machine
end

