-- ==== Sys2Proof/Machine/MersenneTwister.lean ====
section
/-! DEFINITION. The Mersenne Twister state engine (41_mersenne_twister.md): seeding, the twist unit, the
output transform, extraction. Defined by these rules and nothing else (R146). -/

namespace Sys2Proof.Machine

/-- Word `i` of the seeding pass from word `i - 1`, `p` (41_mersenne_twister.md R134). -/
def seedWord (c : Config) (i : Nat) (p : Word) : Word :=
  (c.seedMult * (p ^^^ (p >>> c.seedShift)) + BitVec.ofNat 64 i) &&& c.seedMask

/-- `n` words of the seeding pass from word `i`, whose value is `w`. -/
def seedFrom (c : Config) : Nat → Nat → Word → List Word
  | 0, _, _ => []
  | n + 1, i, w => w :: seedFrom c n (i + 1) (seedWord c (i + 1) w)

/-- The pass fills exactly as many words as asked for. -/
theorem seedFrom_length (c : Config) : ∀ n i w, (seedFrom c n i w).length = n
  | 0, _, _ => rfl
  | n + 1, i, w => congrArg (· + 1) (seedFrom_length c n (i + 1) (seedWord c (i + 1) w))

/-- The state vector `MT_Seed(seed)` leaves: word 0 is the seed, unmasked, and each later word comes from
the one before (41_mersenne_twister.md R134). With fewer than 312 words in the configuration, nothing reads
the words after its last one. -/
def mtSeed (c : Config) (seed : Word) : MtVec :=
  ⟨⟨seedFrom c nn 0 seed⟩, seedFrom_length c nn 0 seed⟩

/-- The cursor after seeding: state NeedsTwist (41_mersenne_twister.md R134, R143). -/
def cursorAfterSeed (c : Config) : BitVec 9 := BitVec.ofNat 9 c.nn

/-- `TwistWord(a, b, c)` (41_mersenne_twister.md R136), its third operand named `d`. -/
def twistWord (c : Config) (a b d : Word) : Word :=
  let x := (a &&& c.upperMask) ||| (b &&& c.lowerMask)
  let y := x >>> 1
  let odd := match c.twistOddTest with
    | .postShift => y.getLsbD 0
    | .preShift => x.getLsbD 0
  d ^^^ (if odd then y ^^^ c.matrixA else y)

/-- Iteration `i` of the twist, in place (41_mersenne_twister.md R135); every index is modulo `NN` (R130). -/
def twistAt (c : Config) (v : MtVec) (i : Nat) : MtVec :=
  v.setWord i (twistWord c (v.word i) (v.word ((i + 1) % c.nn)) (v.word ((i + c.mm) % c.nn)))

/-- The vector after the iterations 0 to `n - 1`, each seeing the writes of those before it. -/
def twistLoop (c : Config) : Nat → MtVec → MtVec
  | 0, v => v
  | n + 1, v => twistAt c (twistLoop c n v) n

/-- The vector `Twist()` leaves (41_mersenne_twister.md R135). -/
def twist (c : Config) (v : MtVec) : MtVec := twistLoop c c.nn v

/-- `Temper(y)` (41_mersenne_twister.md R140). -/
def temper (c : Config) (y : Word) : Word :=
  let y := y ^^^ ((y >>> c.tU) &&& c.tD)
  let y := y ^^^ ((y <<< c.tS) &&& c.tB)
  let y := y ^^^ ((y <<< c.tT) &&& c.tC)
  y ^^^ (y >>> c.tL)

/-- The engine needs a twist before the next word is read (41_mersenne_twister.md R142: `MT.cursor >= NN`). -/
def needsTwist (c : Config) (k : BitVec 9) : Bool := c.nn ≤ k.toNat

/-- The state vector the extraction reads: twisted first if the cursor has reached `NN`. -/
def readyVec (c : Config) (v : MtVec) (k : BitVec 9) : MtVec :=
  if needsTwist c k then twist c v else v

/-- The cursor the extraction reads at: the twist resets it to 0 (41_mersenne_twister.md R135). -/
def readyCursor (c : Config) (k : BitVec 9) : BitVec 9 := if needsTwist c k then 0#9 else k

/-- The output transform of a state word: tempering, then the output mask (41_mersenne_twister.md R141). -/
def mtOutput (c : Config) (y : Word) : Word := temper c y &&& c.outMask

/-- What `MT_Next()` returns (41_mersenne_twister.md R142). -/
def mtNextValue (c : Config) (v : MtVec) (k : BitVec 9) : Word :=
  mtOutput c ((readyVec c v k).word (readyCursor c k).toNat)

/-- The cursor `MT_Next()` leaves (41_mersenne_twister.md R142). -/
def mtNextCursor (c : Config) (k : BitVec 9) : BitVec 9 := readyCursor c k + 1#9

end Sys2Proof.Machine
end

