-- ==== Sys2Proof/Machine/Xorshift.lean ====
section
/-! DEFINITION. The Xorshift* feedback network (42_xorshift.md). -/

namespace Sys2Proof.Machine

/-- The state update of `XS_Next()`: three xor-shift steps, each on the value the one before it produced
(42_xorshift.md R171, R173). -/
def xsStep (c : Config) (s : Word) : Word :=
  let s := s ^^^ (s >>> c.xsA)
  let s := s ^^^ (s <<< c.xsB)
  s ^^^ (s >>> c.xsC)

/-- What `XS_Next()` returns: the new state times the multiplier; the stored state is not multiplied
(42_xorshift.md R171). -/
def xsNextValue (c : Config) (s : Word) : Word := xsStep c s * c.xsMult

/-- `XS_Seed(seed)`: all 64 bits, no transformation (42_xorshift.md R172). -/
def xsSeed (seed : Word) : Word := seed

end Sys2Proof.Machine
end

