-- ==== Sys2Proof/Machine/Generator.lean ====
section
/-! DEFINITION. The two operations both engines share: seeding a fresh generator (40_capability.md R102,
R111) and `Next()` (R104); and the bounded-range mapping over them (R106). -/

namespace Sys2Proof.Machine

/-- A fresh generator of variant `e`: nothing of the previous one is left (40_capability.md R111), and
`VARIANT` takes the command's variant. -/
def State.seedGenerator (c : Config) (e : Engine) (seed : Word) (s : State) : State :=
  match e with
  | .mt => s.holdMt (mtSeed c seed) (cursorAfterSeed c)
  | .xs => s.holdXs (xsSeed seed)

/-- `Next()` (40_capability.md R104): the value drawn and the state after, or, in a state no run reaches,
what it found without a value. -/
def draw (c : Config) (s : State) : Except Fault (Word × State) :=
  match s.variant with
  | .none => .error .noGenerator
  | .mt =>
    match s.mtWord, s.mtCursor with
    | some v, some k => .ok (mtNextValue c v k, s.writeMt (readyVec c v k) (mtNextCursor c k))
    | _, _ => .error .mtHoldsNoValue
  | .xs =>
    match s.xsState with
    | some x => .ok (xsNextValue c x, s.writeXs (xsStep c x))
    | none => .error .xsHoldsNoValue

/-- `Bounded(min, max, r)` (40_capability.md R106), for `max > min`: modulo only, the bias kept (R108). -/
def bounded (min max r : Word) : Word := min + r % (max - min)

/-- Draw once, and return `f` of the value drawn in `RES` (10_state.md R29, 40_capability.md R104). -/
def returnDraw (c : Config) (f : Word → Word) (s : State) : Result :=
  match draw c s with
  | .ok (r, t) => .next (t.writeRes (f r))
  | .error e => .fault e

end Sys2Proof.Machine
end

