-- ==== Sys2Proof/Machine/Operands.lean ====
section
/-! DEFINITION. Every operand form (30_encoding.md R73, R78): the numeric operands arrive whole on the
ports; the only one built from the command word is the shape. -/

namespace Sys2Proof

/-- The format of each command (30_encoding.md R73). -/
def Instr.format : Instr → Format
  | .constructMt | .constructXs => .fv
  | .next | .roll => .f0
  | .nextb => .fab
  | .nextb0 => .fa
  | .dieMt | .dieXs => .fva
  | .dieMtD4 | .dieMtD6 | .dieMtD8 | .dieMtD10 | .dieMtD12 | .dieMtD20 | .dieMtD100 => .fvs
  | .dieXsD4 | .dieXsD6 | .dieXsD8 | .dieXsD10 | .dieXsD12 | .dieXsD20 | .dieXsD100 => .fvs

/-- The formats that read `OPA` (30_encoding.md R73). -/
def Format.readsOpa : Format → Bool
  | .fa | .fab | .fva => true
  | .f0 | .fv | .fvs => false

/-- The formats that read `OPB` (30_encoding.md R73). -/
def Format.readsOpb : Format → Bool
  | .fab => true
  | .f0 | .fv | .fa | .fva | .fvs => false

/-- The formats that read `SEED` and `SEED_VALID`: the construct commands (30_encoding.md R73). -/
def Format.readsSeed : Format → Bool
  | .fv | .fva | .fvs => true
  | .f0 | .fa | .fab => false

/-- The code `S` of a shape (30_encoding.md R77), which is also its place in `DIE_SHAPES`. -/
def Shape.code : Shape → Fin 7
  | .d4 => 0
  | .d6 => 1
  | .d8 => 2
  | .d10 => 3
  | .d12 => 4
  | .d20 => 5
  | .d100 => 6

/-- `SHAPE_SIDES(S)` (43_die.md R191). -/
def Shape.sides (c : Config) (sh : Shape) : Word := c.dieShapes[sh.code]

namespace Machine

/-- NEXTB: `min = OPA` (30_encoding.md R78). -/
def State.nextbMin (s : State) : Word := s.ports.opa

/-- NEXTB: `max = OPB` (30_encoding.md R78). -/
def State.nextbMax (s : State) : Word := s.ports.opb

/-- NEXTB0: `max = OPA` (30_encoding.md R78). -/
def State.nextb0Max (s : State) : Word := s.ports.opa

/-- DIE: `sides = OPA` (30_encoding.md R78). -/
def State.dieSides (s : State) : Word := s.ports.opa

/-- A construct: `seed = SEED` when `SEED_VALID` says that the Seed Source succeeded (30_encoding.md R78). -/
def State.capturedSeed (s : State) : Option Word :=
  if s.ports.seedValid then some s.ports.seed else none

end Machine

end Sys2Proof
end

