-- ==== Sys2Proof/Machine/Construct.lean ====
section
/-! DEFINITION. CONSTRUCT.MT and CONSTRUCT.XS (40_capability.md R102). -/

namespace Sys2Proof.Machine

/-- CONSTRUCT(v) (40_capability.md R102): a bare generator, and the die is dropped. -/
def constructOp (c : Config) (e : Engine) (s : State) : Result :=
  match s.capturedSeed with
  | none => trap .clockError s
  | some seed => .next (s.seedGenerator c e seed).dropDie

/-- CONSTRUCT.MT (40_capability.md R102). -/
def execConstructMt (s : State) : Result := constructOp Config.unit .mt s

/-- CONSTRUCT.XS (40_capability.md R102). -/
def execConstructXs (s : State) : Result := constructOp Config.unit .xs s

end Sys2Proof.Machine
end

