-- ==== Sys2Proof/Machine/Die.lean ====
section
/-! DEFINITION. The die constructs DIE.MT, DIE.XS (43_die.md R192) and the fourteen fixed shapes (R193). -/

namespace Sys2Proof.Machine

/-- DIE(v) with a sides count (43_die.md R192): a fresh generator and a die over it; the count is not
validated, 0 included. -/
def dieOp (c : Config) (e : Engine) (n : Word) (s : State) : Result :=
  match s.capturedSeed with
  | none => trap .clockError s
  | some seed => .next ((s.seedGenerator c e seed).holdDie n)

/-- DIE.MT (43_die.md R192). -/
def execDieMt (s : State) : Result := dieOp Config.unit .mt s.dieSides s

/-- DIE.XS (43_die.md R192). -/
def execDieXs (s : State) : Result := dieOp Config.unit .xs s.dieSides s

/-- DIE.Dn (43_die.md R193): the same as DIE with `SHAPE_SIDES(s)` for `OPA`. -/
def dieFixedOp (c : Config) (e : Engine) (sh : Shape) (s : State) : Result := dieOp c e (sh.sides c) s

/-- DIE.MT.D4 (43_die.md R193). -/
def execDieMtD4 (s : State) : Result := dieFixedOp Config.unit .mt .d4 s

/-- DIE.MT.D6 (43_die.md R193). -/
def execDieMtD6 (s : State) : Result := dieFixedOp Config.unit .mt .d6 s

/-- DIE.MT.D8 (43_die.md R193). -/
def execDieMtD8 (s : State) : Result := dieFixedOp Config.unit .mt .d8 s

/-- DIE.MT.D10 (43_die.md R193). -/
def execDieMtD10 (s : State) : Result := dieFixedOp Config.unit .mt .d10 s

/-- DIE.MT.D12 (43_die.md R193). -/
def execDieMtD12 (s : State) : Result := dieFixedOp Config.unit .mt .d12 s

/-- DIE.MT.D20 (43_die.md R193). -/
def execDieMtD20 (s : State) : Result := dieFixedOp Config.unit .mt .d20 s

/-- DIE.MT.D100 (43_die.md R193). -/
def execDieMtD100 (s : State) : Result := dieFixedOp Config.unit .mt .d100 s

/-- DIE.XS.D4 (43_die.md R193). -/
def execDieXsD4 (s : State) : Result := dieFixedOp Config.unit .xs .d4 s

/-- DIE.XS.D6 (43_die.md R193). -/
def execDieXsD6 (s : State) : Result := dieFixedOp Config.unit .xs .d6 s

/-- DIE.XS.D8 (43_die.md R193). -/
def execDieXsD8 (s : State) : Result := dieFixedOp Config.unit .xs .d8 s

/-- DIE.XS.D10 (43_die.md R193). -/
def execDieXsD10 (s : State) : Result := dieFixedOp Config.unit .xs .d10 s

/-- DIE.XS.D12 (43_die.md R193). -/
def execDieXsD12 (s : State) : Result := dieFixedOp Config.unit .xs .d12 s

/-- DIE.XS.D20 (43_die.md R193). -/
def execDieXsD20 (s : State) : Result := dieFixedOp Config.unit .xs .d20 s

/-- DIE.XS.D100 (43_die.md R193). -/
def execDieXsD100 (s : State) : Result := dieFixedOp Config.unit .xs .d100 s

end Sys2Proof.Machine
end

