-- ==== Sys2Proof/Machine/Draw.lean ====
section
/-! DEFINITION. NEXT, NEXTB and NEXTB0 (40_capability.md R103, R105, R107). Every check comes before the
draw (60_exceptions.md R222). -/

namespace Sys2Proof.Machine

/-- NEXT (40_capability.md R103). -/
def nextOp (c : Config) (s : State) : Result :=
  if s.variant = .none then trap .notConstructed s
  else returnDraw c id s

/-- NEXTB (40_capability.md R105). -/
def nextbOp (c : Config) (s : State) : Result :=
  if s.variant = .none then trap .notConstructed s
  else if s.nextbMax < s.nextbMin then trap .rangeInverted s
  else if s.nextbMax = s.nextbMin then trap .arithmeticError s
  else returnDraw c (bounded s.nextbMin s.nextbMax) s

/-- NEXTB0 (40_capability.md R107). -/
def nextb0Op (c : Config) (s : State) : Result :=
  if s.variant = .none then trap .notConstructed s
  else if s.nextb0Max = 0#64 then trap .arithmeticError s
  else returnDraw c (bounded 0#64 s.nextb0Max) s

/-- NEXT (40_capability.md R103). -/
def execNext (s : State) : Result := nextOp Config.unit s

/-- NEXTB (40_capability.md R105). -/
def execNextb (s : State) : Result := nextbOp Config.unit s

/-- NEXTB0 (40_capability.md R107). -/
def execNextb0 (s : State) : Result := nextb0Op Config.unit s

end Sys2Proof.Machine
end

