-- ==== Sys2Proof/Machine/Roll.lean ====
section
/-! DEFINITION. ROLL (43_die.md R194). Every check comes before the draw (60_exceptions.md R222). -/

namespace Sys2Proof.Machine

/-- ROLL of a die with `n` sides: `next_bounded(1, n + 1)` (43_die.md R194). -/
def rollSides (c : Config) (n : Word) (s : State) : Result :=
  if n = 0xFFFFFFFFFFFFFFFF#64 then trap .sidesOverflow s
  else if n + 1#64 = 1#64 then trap .arithmeticError s
  else returnDraw c (bounded 1#64 (n + 1#64)) s

/-- ROLL (43_die.md R194). -/
def rollOp (c : Config) (s : State) : Result :=
  if s.variant = .none then trap .notConstructed s
  else if s.dieValid = false then trap .noDie s
  else
    match s.sides with
    | none => .fault .sidesHoldsNoValue
    | some n => rollSides c n s

/-- ROLL (43_die.md R194). -/
def execRoll (s : State) : Result := rollOp Config.unit s

end Sys2Proof.Machine
end

