-- ==== Sys2Proof/Machine/Dispatch.lean ====
section
/-! DEFINITION. One arm per command (40_capability.md R100, the case over the decoded command). -/

namespace Sys2Proof.Machine

def exec (i : Instr) (s : State) : Host.Outcome State Fault Refusal :=
  match i with
  | .constructMt => Sys2Proof.Machine.execConstructMt s
  | .constructXs => Sys2Proof.Machine.execConstructXs s
  | .next => Sys2Proof.Machine.execNext s
  | .nextb => Sys2Proof.Machine.execNextb s
  | .nextb0 => Sys2Proof.Machine.execNextb0 s
  | .dieMt => Sys2Proof.Machine.execDieMt s
  | .dieXs => Sys2Proof.Machine.execDieXs s
  | .dieMtD4 => Sys2Proof.Machine.execDieMtD4 s
  | .dieMtD6 => Sys2Proof.Machine.execDieMtD6 s
  | .dieMtD8 => Sys2Proof.Machine.execDieMtD8 s
  | .dieMtD10 => Sys2Proof.Machine.execDieMtD10 s
  | .dieMtD12 => Sys2Proof.Machine.execDieMtD12 s
  | .dieMtD20 => Sys2Proof.Machine.execDieMtD20 s
  | .dieMtD100 => Sys2Proof.Machine.execDieMtD100 s
  | .dieXsD4 => Sys2Proof.Machine.execDieXsD4 s
  | .dieXsD6 => Sys2Proof.Machine.execDieXsD6 s
  | .dieXsD8 => Sys2Proof.Machine.execDieXsD8 s
  | .dieXsD10 => Sys2Proof.Machine.execDieXsD10 s
  | .dieXsD12 => Sys2Proof.Machine.execDieXsD12 s
  | .dieXsD20 => Sys2Proof.Machine.execDieXsD20 s
  | .dieXsD100 => Sys2Proof.Machine.execDieXsD100 s
  | .roll => Sys2Proof.Machine.execRoll s

end Sys2Proof.Machine
end

