-- ==== Sys2Proof/Machine/Flags.lean ====
section
/-! DEFINITION. The status register (10_state.md R30) and the three host-readable registers. The unit has
no condition codes and no arithmetic flags (R32). -/

namespace Sys2Proof.Machine

/-- The code `VARIANT` holds (10_state.md R20). -/
def Variant.code : Variant → BitVec 2
  | .none => 0b00
  | .mt => 0b01
  | .xs => 0b10

/-- `STATUS` (10_state.md R30), from bit 31 down: reserved 0, `RES_VALID` (11), `DIE_VALID` (10), `VARIANT`
(9:8), `CAUSE` (7:4), reserved 0 (3:1), `FAULT` (0). The fields mirror the registers, so `STATUS` is
computed from them. -/
def State.status (s : State) : BitVec 32 :=
  0#20 ++ BitVec.ofBool s.resValid ++ BitVec.ofBool s.dieValid ++ s.variant.code ++ s.cause ++ 0#3 ++
    BitVec.ofBool s.fault

/-- A host read of `RES`. While `RES_VALID = 0` the read faults, as 10_state.md R29 demands of a model ("must fault
a read of `RES` while `RES_VALID = 0` and not return a value"; 93_implementation_defined.md I15). -/
def State.readRes (s : State) : Except Fault Word :=
  if s.resValid then
    match s.res with
    | some v => .ok v
    | none => .error .resHoldsNoValue
  else .error .resHoldsNoValue

/-- A host read of `STATUS` (10_state.md R30), at any time, without side effect. -/
def State.readStatus (s : State) : BitVec 32 := s.status

/-- A host read of `FAULT_CMD` (10_state.md R31), at any time, without side effect. -/
def State.readFaultCmd (s : State) : CmdWord := s.faultCmd

end Sys2Proof.Machine
end

