-- ==== Sys2Proof/Machine/HostPort.lean ====
section
/-! DEFINITION. The unit's side of the host's moves (70_reset_and_hazards.md R275): the command step
(40_capability.md R100), reset, power and the three reads. What a decoded command does is an argument, `ex`:
the meanings under any configuration (Machine/Configured.lean), or `exec`, those of this unit. -/

namespace Sys2Proof.Machine

/-- `Step(CMD, OPA, OPB, SEED, SEED_VALID)` (40_capability.md R100). A halted unit accepts and completes a
command with no effect (60_exceptions.md R223). -/
def runCommandWith (ex : Instr → State → Result) (p : Ports) (s : State) : Result :=
  if s.fault then .next s
  else
    mapNext State.release
      (match decode p.cmd with
       | .error _ => trap .illegalCommand (s.accept p)
       | .ok i => ex i (s.accept p))

/-- One move of the host. A command presented while `RESET` is asserted is dropped
(70_reset_and_hazards.md R260). Reads change nothing of the unit (20_memory.md R56). -/
def acceptMoveWith (ex : Instr → State → Result) (m : HostMove) (s : State) : Result :=
  match m with
  | .issue p => if s.resetPin then .next s else runCommandWith ex p s
  | .assertReset => .next (s.driveReset true).resetUnit
  | .releaseReset => .next (s.driveReset false)
  | .powerCycle => .next s.resetUnit
  | .readRes =>
    match s.readRes with
    | .ok v => .next (s.reply (.res v))
    | .error e => .fault e
  | .readStatus => .next (s.reply (.status s.readStatus))
  | .readFaultCmd => .next (s.reply (.faultCmd s.readFaultCmd))

/-- One step: the host's first pending move, or, with none pending, the unit waits
(70_reset_and_hazards.md R262). -/
def stepWith (ex : Instr → State → Result) (s : State) : Result :=
  match s.inbox with
  | [] => .next s.holdInReset
  | m :: rest => acceptMoveWith ex m (s.setInbox rest).holdInReset

/-- The command step of this unit. -/
def runCommand (p : Ports) (s : State) : Result := runCommandWith exec p s

/-- One move of the host, on this unit. -/
def acceptMove (m : HostMove) (s : State) : Result := acceptMoveWith exec m s

/-- One step of this unit. -/
def stepUnit (s : State) : Result := stepWith exec s

/-- The command a table row's word stands for when the host checks it: the word on `CMD`, 0 on `OPA`,
`OPB` and `SEED`, and `SEED_VALID` = 1 (log entry 8). -/
def portsOfWord (nbits w : Nat) : Ports :=
  ⟨BitVec.ofNat 32 (w % 2 ^ nbits), 0#64, 0#64, 0#64, true⟩

/-- The host has the command of word `w` pending before all else, with `RESET` low. -/
def State.issueWord (s : State) (nbits w : Nat) : State :=
  (s.driveReset false).setInbox (.issue (portsOfWord nbits w) :: s.inbox)

end Sys2Proof.Machine
end

