-- ==== Sys2Proof/Machine/Step.lean ====
section
/-! DEFINITION. The machine's step, and how a command word comes to be the next command. -/

namespace Sys2Proof.Machine

/-- One step of the machine (40_capability.md R100, 70_reset_and_hazards.md R275). -/
def step (s : State) : Host.Outcome State Fault Refusal := stepUnit s

/-- `s` with the command of word `w` as the very next one. The unit fetches nothing (20_memory.md R62): a
command arrives on the port `CMD`, so this puts it first among the host's pending moves. -/
def State.withFetchWord (s : State) (nbits w : Nat) : State := s.issueWord nbits w

end Sys2Proof.Machine
end

