-- ==== Sys2Proof/Machine/Assembler.lean ====
section
/-! DEFINITION. The assembler syntax and the pseudo-instructions (30_encoding.md R84, R85, R86). They have
no semantics of their own (92_eei_decisions.md D7): a line becomes the host moves that issue its commands. -/

namespace Sys2Proof

/-- The mnemonic of each command (30_encoding.md R87). -/
def Instr.mnemonic : Instr → String
  | .constructMt => "CONSTRUCT.MT"
  | .constructXs => "CONSTRUCT.XS"
  | .next => "NEXT"
  | .nextb => "NEXTB"
  | .nextb0 => "NEXTB0"
  | .dieMt => "DIE.MT"
  | .dieXs => "DIE.XS"
  | .dieMtD4 => "DIE.MT.D4"
  | .dieMtD6 => "DIE.MT.D6"
  | .dieMtD8 => "DIE.MT.D8"
  | .dieMtD10 => "DIE.MT.D10"
  | .dieMtD12 => "DIE.MT.D12"
  | .dieMtD20 => "DIE.MT.D20"
  | .dieMtD100 => "DIE.MT.D100"
  | .dieXsD4 => "DIE.XS.D4"
  | .dieXsD6 => "DIE.XS.D6"
  | .dieXsD8 => "DIE.XS.D8"
  | .dieXsD10 => "DIE.XS.D10"
  | .dieXsD12 => "DIE.XS.D12"
  | .dieXsD20 => "DIE.XS.D20"
  | .dieXsD100 => "DIE.XS.D100"
  | .roll => "ROLL"

/-- The 22 commands, in the order of the table of legal words (30_encoding.md R87). -/
def allInstrs : List Instr :=
  [.constructMt, .constructXs, .next, .nextb, .nextb0, .dieMt, .dieXs] ++
  [.dieMtD4, .dieMtD6, .dieMtD8, .dieMtD10, .dieMtD12, .dieMtD20, .dieMtD100] ++
  [.dieXsD4, .dieXsD6, .dieXsD8, .dieXsD10, .dieXsD12, .dieXsD20, .dieXsD100] ++
  [.roll]

end Sys2Proof

namespace Sys2Proof.Machine

/-- One assembler line: a command with its operands, or a pseudo-instruction. -/
inductive AsmLine where
  /-- a command and its operands (30_encoding.md R84) -/
  | command (i : Instr) (operands : List Word)
  /-- `DIE.MT d<n>` or `DIE.XS d<n>` (R85) -/
  | dieShape (e : Engine) (sh : Shape)
  /-- `ROLLS k` (R85) -/
  | rolls (k : Nat)
  /-- `CLI.DEFAULT` (R86) -/
  | cliDefault
  deriving DecidableEq, Repr

/-- What a line expands to (30_encoding.md R85, R86): commands, each with its operands. -/
def AsmLine.expand : AsmLine → List (Instr × List Word)
  | .command i operands => [(i, operands)]
  | .dieShape e sh => [(dieFixedOf e sh, [])]
  | .rolls k => List.replicate k (.roll, [])
  | .cliDefault => [(.dieMtD20, []), (.roll, [])]

/-- `SEED` and `SEED_VALID` as the Seed Source drives them: `none` is a failed clock read
(92_eei_decisions.md D43). What stands on `SEED` then is open, and that it is 0 is the model's choice (log entry
22). A command that does not read the two ports gets 0 (30_encoding.md R84). -/
def seedPorts (i : Instr) (seed : Option Word) : Word × Bool :=
  if i.format.readsSeed then
    match seed with
    | some q => (q, true)
    | none => (0#64, false)
  else (0#64, false)

/-- The port values of a command (30_encoding.md R78, R84): each operand on its port, every ignored port 0.
There is none when the number of operands is not the format's. -/
def assembleCommand (i : Instr) (operands : List Word) (seed : Option Word) : Option Ports :=
  match i.format, operands with
  | .f0, [] | .fv, [] | .fvs, [] =>
    some ⟨encode i, 0#64, 0#64, (seedPorts i seed).1, (seedPorts i seed).2⟩
  | .fa, [a] | .fva, [a] => some ⟨encode i, a, 0#64, (seedPorts i seed).1, (seedPorts i seed).2⟩
  | .fab, [a, b] => some ⟨encode i, a, b, (seedPorts i seed).1, (seedPorts i seed).2⟩
  | _, _ => none

/-- The host moves of a list of commands, in order. -/
def assembleAll (seed : Option Word) : List (Instr × List Word) → Option (List HostMove)
  | [] => some []
  | (i, operands) :: rest =>
    match assembleCommand i operands seed, assembleAll seed rest with
    | some p, some l => some (.issue p :: l)
    | _, _ => none

/-- The host moves of a line, with the value the Seed Source drives. -/
def AsmLine.assemble (l : AsmLine) (seed : Option Word) : Option (List HostMove) :=
  assembleAll seed l.expand

/-- A line without its comment: a `;` starts one (30_encoding.md R84). -/
def stripComment (l : List Char) : List Char := l.takeWhile (· ≠ ';')

/-- White space between the parts of a line (log entry 16). -/
def isBlank (ch : Char) : Bool := ch = ' ' || ch = '\t'

/-- A part of a line without the white space around it. -/
def trimBlanks (l : List Char) : List Char :=
  ((l.dropWhile isBlank).reverse.dropWhile isBlank).reverse

/-- The operands are separated by commas (30_encoding.md R84). -/
def splitCommas : List Char → List (List Char)
  | [] => [[]]
  | ch :: rest =>
    if ch = ',' then [] :: splitCommas rest
    else
      match splitCommas rest with
      | [] => [[ch]]
      | t :: ts => (ch :: t) :: ts

/-- The value of a digit. -/
def digitValue (ch : Char) : Option Nat :=
  if '0' ≤ ch ∧ ch ≤ '9' then some (ch.toNat - '0'.toNat)
  else if 'a' ≤ ch ∧ ch ≤ 'f' then some (ch.toNat - 'a'.toNat + 10)
  else if 'A' ≤ ch ∧ ch ≤ 'F' then some (ch.toNat - 'A'.toNat + 10)
  else none

/-- The number written by digits of a base, after the part already read. -/
def parseDigits (base : Nat) : Nat → List Char → Option Nat
  | acc, [] => some acc
  | acc, ch :: rest =>
    match digitValue ch with
    | some d => if d < base then parseDigits base (acc * base + d) rest else none
    | none => none

/-- An unsigned integer, decimal or with the prefix `0x` hexadecimal (30_encoding.md R84). -/
def parseNumber (l : List Char) : Option Nat :=
  match l with
  | [] => none
  | ['0', 'x'] => none
  | '0' :: 'x' :: rest => parseDigits 16 0 rest
  | _ => parseDigits 10 0 l

/-- An operand: in the range 0 to 2^64 - 1 (30_encoding.md R84). -/
def parseOperand (l : List Char) : Option Word :=
  match parseNumber l with
  | some n => if n < 2 ^ 64 then some (BitVec.ofNat 64 n) else none
  | none => none

/-- All operands of a line; there are none when nothing follows the mnemonic. -/
def parseOperands (l : List Char) : Option (List Word) :=
  if trimBlanks l = [] then some []
  else (splitCommas l).mapM fun t => parseOperand (trimBlanks t)

/-- `d<n>` for a fixed shape (30_encoding.md R85). -/
def parseShape (l : List Char) : Option Shape :=
  if l = "d4".toList then some .d4
  else if l = "d6".toList then some .d6
  else if l = "d8".toList then some .d8
  else if l = "d10".toList then some .d10
  else if l = "d12".toList then some .d12
  else if l = "d20".toList then some .d20
  else if l = "d100".toList then some .d100
  else none

/-- `ROLLS k` with `k >= 1` (30_encoding.md R85). How `k` is written and how large it may be is open: the model
takes it in decimal or with `0x`, as an operand is written, and of any size (log entry 16). -/
def parseRolls (l : List Char) : Option AsmLine :=
  match parseNumber (trimBlanks l) with
  | some k => if 1 ≤ k then some (.rolls k) else none
  | none => none

/-- A command by its mnemonic, with as many operands as its format reads. -/
def parseCommand (m l : List Char) : Option AsmLine :=
  match allInstrs.find? (fun i => i.mnemonic.toList = m), parseOperands l with
  | some i, some operands =>
    if (assembleCommand i operands none).isSome then some (.command i operands) else none
  | _, _ => none

/-- A line's mnemonic and what follows it, read as a command or a pseudo-instruction. -/
def parseStatement (m l : List Char) : Option AsmLine :=
  if m = "ROLLS".toList then parseRolls l
  else if m = "CLI.DEFAULT".toList then
    if trimBlanks l = [] then some .cliDefault else none
  else
    match parseShape (trimBlanks l) with
    | some sh =>
      if m = "DIE.MT".toList then some (.dieShape .mt sh)
      else if m = "DIE.XS".toList then some (.dieShape .xs sh)
      else none
    | none => parseCommand m l

/-- A line of assembler text: one command (30_encoding.md R84) or one pseudo-instruction (R85, R86), and `none`
for a line that is not of the syntax. R84 is silent on a line with no command: that a line which is blank or
only a comment is accepted and stands for nothing is the model's choice (log entry 16). -/
def parseLine (l : List Char) : Option (List AsmLine) :=
  let t := trimBlanks (stripComment l)
  if t = [] then some []
  else
    match parseStatement (t.takeWhile (!isBlank ·)) (t.dropWhile (!isBlank ·)) with
    | some a => some [a]
    | none => none

end Sys2Proof.Machine
end

