-- ==== Sys2Proof/Machine/Configured.lean ====
section
/-! DEFINITION. The machine with the configuration record as a parameter of its step relation (00_scope.md
R3, 10_state.md R34, 93_implementation_defined.md I12). `exec`, `step` and `core`, whose types the host fixes,
are this machine under `Config.unit` (log entry 9). -/

namespace Sys2Proof.Machine

/-- What a command does under a configuration. -/
def execUnder (c : Config) (i : Instr) (s : State) : Result :=
  match i with
  | .constructMt => constructOp c .mt s
  | .constructXs => constructOp c .xs s
  | .next => nextOp c s
  | .nextb => nextbOp c s
  | .nextb0 => nextb0Op c s
  | .dieMt => dieOp c .mt s.dieSides s
  | .dieXs => dieOp c .xs s.dieSides s
  | .dieMtD4 => dieFixedOp c .mt .d4 s
  | .dieMtD6 => dieFixedOp c .mt .d6 s
  | .dieMtD8 => dieFixedOp c .mt .d8 s
  | .dieMtD10 => dieFixedOp c .mt .d10 s
  | .dieMtD12 => dieFixedOp c .mt .d12 s
  | .dieMtD20 => dieFixedOp c .mt .d20 s
  | .dieMtD100 => dieFixedOp c .mt .d100 s
  | .dieXsD4 => dieFixedOp c .xs .d4 s
  | .dieXsD6 => dieFixedOp c .xs .d6 s
  | .dieXsD8 => dieFixedOp c .xs .d8 s
  | .dieXsD10 => dieFixedOp c .xs .d10 s
  | .dieXsD12 => dieFixedOp c .xs .d12 s
  | .dieXsD20 => dieFixedOp c .xs .d20 s
  | .dieXsD100 => dieFixedOp c .xs .d100 s
  | .roll => rollOp c s

/-- The step relation, the configuration its parameter (40_capability.md R100, 00_scope.md R3). -/
def stepUnder (c : Config) (s : State) : Result := stepWith (execUnder c) s

/-- The machine under a configuration, as the host's interface wants it. -/
def coreUnder (c : Config) : Host.Core where
  State := State
  Fault := Fault
  Refusal := Refusal
  step := stepUnder c
  reset := State.reset

end Sys2Proof.Machine
end

