-- ==== Sys2Proof/Safety.lean ====
section
/-! DEFINITION. What claims are stated in: the invariant of reachable states (10_state.md R24, R26, R35,
R36), a run with its start, its end and its observation (70_reset_and_hazards.md R274), when it ends well
(60_exceptions.md R223), and a sequence of draws (41_mersenne_twister.md R144). -/

namespace Sys2Proof

/-- The commands that draw from the generator when they complete (40_capability.md R104). -/
def Instr.draws : Instr → Bool
  | .next | .nextb | .nextb0 | .roll => true
  | .constructMt | .constructXs | .dieMt | .dieXs => false
  | .dieMtD4 | .dieMtD6 | .dieMtD8 | .dieMtD10 | .dieMtD12 | .dieMtD20 | .dieMtD100 => false
  | .dieXsD4 | .dieXsD6 | .dieXsD8 | .dieXsD10 | .dieXsD12 | .dieXsD20 | .dieXsD100 => false

end Sys2Proof

namespace Sys2Proof.Machine

/-- Only the state of the variant named by `VARIANT` holds a value, and it does (10_state.md R24). -/
def State.GeneratorHeld (s : State) : Prop :=
  match s.variant with
  | .none => s.mtWord = none ∧ s.mtCursor = none ∧ s.xsState = none
  | .mt => (∃ v k, s.mtWord = some v ∧ s.mtCursor = some k ∧ k.toNat ≤ nn) ∧ s.xsState = none
  | .xs => s.mtWord = none ∧ s.mtCursor = none ∧ ∃ x, s.xsState = some x

/-- The invariant of reachable states: 10_state.md R36, with R24, R26 and R35 (which registers hold a value)
and R260 of 70_reset_and_hazards.md (what holds while `RESET` is asserted). -/
structure State.Inv (s : State) : Prop where
  /-- R24, and R36: `VARIANT = MT` implies `0 <= MT.cursor <= 312` -/
  generatorHeld : s.GeneratorHeld
  /-- R26, R36: `DIE_VALID = 1` implies `VARIANT != NONE` -/
  dieHasGenerator : s.dieValid = true → s.variant ≠ .none
  /-- `SIDES` holds a value exactly while the unit holds a die (R26; 40_capability.md R102) -/
  sidesHeld : s.sides.isSome = s.dieValid
  /-- `RES` holds a value exactly when `RES_VALID = 1` (R29) -/
  resHeld : s.res.isSome = s.resValid
  /-- R36: `STATUS.FAULT = 0` implies `STATUS.CAUSE = 0` and `FAULT_CMD = 0` -/
  recordClear : s.fault = false → s.cause = 0#4 ∧ s.faultCmd = 0#32
  /-- R36: `STATUS.FAULT = 1` implies `STATUS.CAUSE` is one of the codes 1 to 7 -/
  causeNamed : s.fault = true → 1 ≤ s.cause.toNat ∧ s.cause.toNat ≤ 7
  /-- R260: while `RESET` is asserted every register has its reset value -/
  heldInReset : s.resetPin = true → s = s.resetUnit
  /-- between two steps no command is being executed (R28) -/
  portsIdle : s.ports = Ports.idle

/-- The unit's registers without the host's side: two states are the same unit when these are equal. -/
def State.unitOf (s : State) : State :=
  { s with resetPin := false, ports := Ports.idle, inbox := [], hostRead := none }

/-- The moves that reset the unit, and so start a run (70_reset_and_hazards.md R274, R261). -/
def HostMove.resets : HostMove → Bool
  | .assertReset | .powerCycle => true
  | .issue _ | .releaseReset | .readRes | .readStatus | .readFaultCmd => false

/-- The moves that issue a command. -/
def HostMove.issuesCommand : HostMove → Bool
  | .issue _ => true
  | .assertReset | .powerCycle | .releaseReset | .readRes | .readStatus | .readFaultCmd => false

/-- A run starts with a reset (70_reset_and_hazards.md R274): the unit is as reset left it, `RESET` low. -/
def State.startsRun (s : State) : Bool := decide (s.unitOf = State.reset) && !s.resetPin

/-- A run ends when the host issues no more commands (70_reset_and_hazards.md R274): none is pending before the
next reset. That the next reset ends it is the model's choice (log entry 21). -/
def runOver (pending : List HostMove) : Bool :=
  (pending.takeWhile fun m => !m.resets).all fun m => !m.issuesCommand

/-- The `n` steps from `s` are a run (70_reset_and_hazards.md R274), from its start to its end. A reset that the
host makes among the moves starts another run, and is no part of this one: the model's choice (log entry
21). -/
def isRun (n : Nat) (s : State) : Bool :=
  s.startsRun && (s.inbox.take n).all (fun m => !m.resets) && runOver (s.inbox.drop n)

/-- A state a run may end well in: no command is pending, and the unit is not halted, as a halted unit is never
final (60_exceptions.md R223). -/
def State.isFinal (s : State) : Bool := runOver s.inbox && !s.fault

/-- The first pending move is a command the unit executes: not halted, `RESET` low. -/
def State.pendingCommand (s : State) : Option Instr :=
  match s.inbox with
  | .issue p :: _ =>
    if s.resetPin || s.fault then none
    else
      match decode p.cmd with
      | .ok i => some i
      | .error _ => none
  | _ => none

/-- What one step from `s` to `t` adds to the observation: the value of `RES` after a NEXT, NEXTB, NEXTB0 or
ROLL that completed (70_reset_and_hazards.md R274). -/
def observedRes (s t : State) : List Word :=
  match s.pendingCommand with
  | some i => if i.draws && !t.fault then t.res.toList else []
  | none => []

/-- The values of `RES` observed in `n` steps from `s`, in order (70_reset_and_hazards.md R274). -/
def observedResValues : Nat → State → List Word
  | 0, _ => []
  | n + 1, s =>
    match step s with
    | .next t => observedRes s t ++ observedResValues n t
    | .fault _ => []
    | .refused _ => []

/-- What is observed of a run (70_reset_and_hazards.md R274). -/
structure Observation where
  /-- the values of `RES`, one after each draw command that completes -/
  resValues : List Word
  /-- the final `STATUS` -/
  status : BitVec 32
  /-- the final `FAULT_CMD` -/
  faultCmd : CmdWord
  deriving DecidableEq, Repr

/-- The observation of the run of `n` steps from `s` (70_reset_and_hazards.md R274). There is none if those steps
are no run, and none if the model stopped, at a read of `RES` that holds no value. -/
def observe (n : Nat) (s : State) : Option Observation :=
  if isRun n s then
    match Sys2Proof.core.run n s with
    | .next t => some ⟨observedResValues n s, t.readStatus, t.readFaultCmd⟩
    | .fault _ => none
    | .refused _ => none
  else none

/-- A faulted run is one whose final `STATUS.FAULT` is 1 (70_reset_and_hazards.md R274). -/
def Observation.faulted (o : Observation) : Bool := o.status.getLsbD 0

/-- The `n` steps from `s` are a run that ends well: it is observed to its end, and is no faulted run
(70_reset_and_hazards.md R274, 60_exceptions.md R223). -/
def runEndsWell (n : Nat) (s : State) : Bool :=
  match observe n s with
  | some o => !o.faulted
  | none => false

/-- `n` commands NEXT, one after another (41_mersenne_twister.md R144: each that completes is one draw). -/
def nextTimes : Nat → State → Result
  | 0, s => .next s
  | n + 1, s =>
    match nextTimes n s with
    | .next t => exec .next t
    | .fault e => .fault e
    | .refused r => .refused r

/-- State NeedsTwist (41_mersenne_twister.md R143). -/
def State.NeedsTwist (s : State) : Bool :=
  match s.mtCursor with
  | some k => needsTwist Config.unit k
  | none => false

/-- How many of `n` draws from `s` ran a twist first: those that found the engine in NeedsTwist
(41_mersenne_twister.md R142, R144). -/
def twistsDuring : Nat → State → Nat
  | 0, _ => 0
  | n + 1, s =>
    twistsDuring n s +
      match nextTimes n s with
      | .next t => if t.NeedsTwist then 1 else 0
      | .fault _ => 0
      | .refused _ => 0

/-- Two port tuples are the same for a format when they agree on `CMD` and on every port the format reads
(30_encoding.md R73, R82). -/
def Ports.agreeOn (f : Format) (p q : Ports) : Prop :=
  p.cmd = q.cmd ∧ (f.readsOpa = true → p.opa = q.opa) ∧ (f.readsOpb = true → p.opb = q.opb) ∧
    (f.readsSeed = true → p.seed = q.seed ∧ p.seedValid = q.seedValid)

end Sys2Proof.Machine
end

