-- ==== Sys2Proof/Certificates/Slice0/Obligations.lean ====
section
/-! DEFINITION. The statements for the provers. First the words they are stated in, written from the rules
of spec/ and not from the meanings: the table of legal words, the states a seeding and a draw lead to, and
the condition of each fault cause. -/

namespace Sys2Proof.Machine

/-- A row of the table of legal words (30_encoding.md R87). -/
structure LegalRow where
  mnemonic : String
  opc : BitVec 8
  v : BitVec 2
  s : BitVec 3
  word : CmdWord
  format : Format
  instr : Instr
  deriving DecidableEq, Repr

/-- The table of legal words, row by row (30_encoding.md R87). -/
def legalWordTable : List LegalRow :=
  [⟨"CONSTRUCT.MT", 0x01, 0b01, 0b000, 0x00000101, .fv, .constructMt⟩,
   ⟨"CONSTRUCT.XS", 0x01, 0b10, 0b000, 0x00000201, .fv, .constructXs⟩,
   ⟨"NEXT", 0x02, 0b00, 0b000, 0x00000002, .f0, .next⟩,
   ⟨"NEXTB", 0x03, 0b00, 0b000, 0x00000003, .fab, .nextb⟩,
   ⟨"NEXTB0", 0x04, 0b00, 0b000, 0x00000004, .fa, .nextb0⟩,
   ⟨"DIE.MT", 0x05, 0b01, 0b000, 0x00000105, .fva, .dieMt⟩,
   ⟨"DIE.XS", 0x05, 0b10, 0b000, 0x00000205, .fva, .dieXs⟩] ++
  [⟨"DIE.MT.D4", 0x06, 0b01, 0b000, 0x00000106, .fvs, .dieMtD4⟩,
   ⟨"DIE.MT.D6", 0x06, 0b01, 0b001, 0x00000506, .fvs, .dieMtD6⟩,
   ⟨"DIE.MT.D8", 0x06, 0b01, 0b010, 0x00000906, .fvs, .dieMtD8⟩,
   ⟨"DIE.MT.D10", 0x06, 0b01, 0b011, 0x00000D06, .fvs, .dieMtD10⟩,
   ⟨"DIE.MT.D12", 0x06, 0b01, 0b100, 0x00001106, .fvs, .dieMtD12⟩,
   ⟨"DIE.MT.D20", 0x06, 0b01, 0b101, 0x00001506, .fvs, .dieMtD20⟩,
   ⟨"DIE.MT.D100", 0x06, 0b01, 0b110, 0x00001906, .fvs, .dieMtD100⟩] ++
  [⟨"DIE.XS.D4", 0x06, 0b10, 0b000, 0x00000206, .fvs, .dieXsD4⟩,
   ⟨"DIE.XS.D6", 0x06, 0b10, 0b001, 0x00000606, .fvs, .dieXsD6⟩,
   ⟨"DIE.XS.D8", 0x06, 0b10, 0b010, 0x00000A06, .fvs, .dieXsD8⟩,
   ⟨"DIE.XS.D10", 0x06, 0b10, 0b011, 0x00000E06, .fvs, .dieXsD10⟩,
   ⟨"DIE.XS.D12", 0x06, 0b10, 0b100, 0x00001206, .fvs, .dieXsD12⟩,
   ⟨"DIE.XS.D20", 0x06, 0b10, 0b101, 0x00001606, .fvs, .dieXsD20⟩,
   ⟨"DIE.XS.D100", 0x06, 0b10, 0b110, 0x00001A06, .fvs, .dieXsD100⟩,
   ⟨"ROLL", 0x07, 0b00, 0b000, 0x00000007, .f0, .roll⟩]

/-- The field values 30_encoding.md R80 lists as illegal, bullet by bullet. -/
abbrev listedIllegal (opc v s rsv : Nat) : Prop :=
  (opc = 0 ∨ 8 ≤ opc) ∨
  rsv ≠ 0 ∨
  ((opc = 1 ∨ opc = 5 ∨ opc = 6) ∧ (v = 0 ∨ v = 3)) ∨
  ((opc = 2 ∨ opc = 3 ∨ opc = 4 ∨ opc = 7) ∧ v ≠ 0) ∨
  (opc = 6 ∧ s = 7) ∨
  (opc ≠ 6 ∧ s ≠ 0)

/-- A word with such values in its fields of 30_encoding.md R72. -/
abbrev isListedIllegal (w : CmdWord) : Prop :=
  listedIllegal (w.extractLsb' 0 8).toNat (w.extractLsb' 8 2).toNat (w.extractLsb' 10 3).toNat
    (w.extractLsb' 13 19).toNat

/-- The state after the seeding of a construct with variant MT (40_capability.md R102, 10_state.md R24). -/
def afterMtSeed (s : State) : State :=
  { s with
    variant := .mt
    mtWord := some (mtSeed Config.unit s.ports.seed)
    mtCursor := some 312#9
    xsState := none }

/-- The state after the seeding of a construct with variant XS (42_xorshift.md R172, 10_state.md R24). -/
def afterXsSeed (s : State) : State :=
  { s with
    variant := .xs
    mtWord := none
    mtCursor := none
    xsState := some s.ports.seed }

/-- The unit holds a Mersenne Twister with this vector and cursor, the cursor in its range (10_state.md R22). -/
def holdsMt (s : State) (v : MtVec) (k : BitVec 9) : Prop :=
  s.variant = .mt ∧ s.mtWord = some v ∧ s.mtCursor = some k ∧ k.toNat ≤ 312

/-- The unit holds an Xorshift* generator with this state. -/
def holdsXs (s : State) (x : Word) : Prop := s.variant = .xs ∧ s.xsState = some x

/-- What `MT_Next()` returns (41_mersenne_twister.md R142, R141). -/
def mtDrawnValue (v : MtVec) (k : BitVec 9) : Word :=
  if k = 312#9 then temper Config.unit ((twist Config.unit v).word 0) &&& 0x7FFFFFFF#64
  else temper Config.unit (v.word k.toNat) &&& 0x7FFFFFFF#64

/-- The state `MT_Next()` leaves (41_mersenne_twister.md R142): in NeedsTwist the twisted vector and cursor
1, in Ready the same vector and the cursor one further. -/
def mtDrawnState (v : MtVec) (k : BitVec 9) (s : State) : State :=
  if k = 312#9 then { s with mtWord := some (twist Config.unit v), mtCursor := some 1#9 }
  else { s with mtCursor := some (k + 1#9) }

/-- The three sequential xor-shift steps with the document's literals (42_xorshift.md R170, R171). -/
def xsUpdated (s : Word) : Word :=
  let s1 := s ^^^ (s >>> 12)
  let s2 := s1 ^^^ (s1 <<< 25)
  s2 ^^^ (s2 >>> 27)

/-- One draw, `Next()` (40_capability.md R104): from `s` it returns `r` and leaves `t`. -/
def drawsValue (s : State) (r : Word) (t : State) : Prop :=
  (∃ v k, holdsMt s v k ∧ r = mtDrawnValue v k ∧ t = mtDrawnState v k s) ∨
  (∃ x, holdsXs s x ∧ r = xsUpdated x * 0x2545F4914F6CDD1D#64 ∧
    t = { s with xsState := some (xsUpdated x) })

/-- The fixed shapes of a Mersenne Twister die and their sides (43_die.md R191, R193). -/
def mtShapeTable : List (Instr × Word) :=
  [(.dieMtD4, 4), (.dieMtD6, 6), (.dieMtD8, 8), (.dieMtD10, 10), (.dieMtD12, 12), (.dieMtD20, 20),
   (.dieMtD100, 100)]

/-- The fixed shapes of an Xorshift* die and their sides (43_die.md R191, R193). -/
def xsShapeTable : List (Instr × Word) :=
  [(.dieXsD4, 4), (.dieXsD6, 6), (.dieXsD8, 8), (.dieXsD10, 10), (.dieXsD12, 12), (.dieXsD20, 20),
   (.dieXsD100, 100)]

/-- The state after a fault (60_exceptions.md R222): the record is written and nothing else. -/
def afterFault (s : State) (code : BitVec 4) (cmd : CmdWord) : State :=
  { s with fault := true, cause := code, faultCmd := cmd }

/-- The code of each cause, column by column (60_exceptions.md R221). -/
def causeCode : Cause → BitVec 4
  | .arithmeticError => 1#4
  | .clockError => 2#4
  | .illegalCommand => 3#4
  | .notConstructed => 4#4
  | .rangeInverted => 5#4
  | .sidesOverflow => 6#4
  | .noDie => 7#4

/-- The condition of each cause for a decoded command (60_exceptions.md R221), after the causes that come
before it in the order of R225. -/
def causeCondition (c : Cause) (i : Instr) (s : State) : Prop :=
  match c with
  | .arithmeticError =>
    s.variant ≠ .none ∧
      ((i = .nextb ∧ s.ports.opb = s.ports.opa) ∨ (i = .nextb0 ∧ s.ports.opa = 0#64) ∨
        (i = .roll ∧ s.dieValid = true ∧ s.sides = some 0#64))
  | .clockError => i.format.readsSeed = true ∧ s.ports.seedValid = false
  | .illegalCommand => False
  | .notConstructed => i.draws = true ∧ s.variant = .none
  | .rangeInverted => i = .nextb ∧ s.variant ≠ .none ∧ s.ports.opb < s.ports.opa
  | .sidesOverflow =>
    i = .roll ∧ s.variant ≠ .none ∧ s.dieValid = true ∧ s.sides = some 0xFFFFFFFFFFFFFFFF#64
  | .noDie => i = .roll ∧ s.variant ≠ .none ∧ s.dieValid = false

/-- The unit's registers hold the values of 10_state.md R35, which are those of 70_reset_and_hazards.md R260. -/
def atResetValues (t : State) : Prop :=
  t.variant = .none ∧ t.dieValid = false ∧ t.resValid = false ∧
  t.fault = false ∧ t.cause = 0#4 ∧ t.faultCmd = 0#32 ∧
  t.mtWord = none ∧ t.mtCursor = none ∧ t.xsState = none ∧ t.sides = none ∧ t.res = none

/-- The sides of the die that a die command builds (43_die.md R191 to R193). -/
def dieSidesOf (i : Instr) (p : Ports) : Option Word :=
  if i = .dieMt ∨ i = .dieXs then some p.opa
  else (mtShapeTable ++ xsShapeTable).lookup i

/-- The lines `DIE.MT d<n>` and `DIE.XS d<n>` and the commands they stand for (30_encoding.md R85). -/
def dieShapeLines : List (String × Instr) :=
  [("DIE.MT d4", .dieMtD4), ("DIE.MT d6", .dieMtD6), ("DIE.MT d8", .dieMtD8), ("DIE.MT d10", .dieMtD10),
   ("DIE.MT d12", .dieMtD12), ("DIE.MT d20", .dieMtD20), ("DIE.MT d100", .dieMtD100)] ++
  [("DIE.XS d4", .dieXsD4), ("DIE.XS d6", .dieXsD6), ("DIE.XS d8", .dieXsD8), ("DIE.XS d10", .dieXsD10),
   ("DIE.XS d12", .dieXsD12), ("DIE.XS d20", .dieXsD20), ("DIE.XS d100", .dieXsD100)]

/-- The vector of 41_mersenne_twister.md R137's example: `word[1]` = 2 and every other word 0. -/
def twistExample : MtVec := MtVec.setWord (Vector.replicate nn 0#64) 1 2#64

/-- The part of a seed that words 1 to 311 depend on (41_mersenne_twister.md R145). -/
def seedMix (q : Word) : Word := (q ^^^ (q >>> 29)) &&& 0x7FFFFFFF#64

end Sys2Proof.Machine

open Sys2Proof Sys2Proof.Machine

/-! ### Encoding -/

/-- Decoding and encoding agree, over all words: a word decodes to a command exactly when it is that
command's word. So decode of encode is the command, and no bit of a word is dropped (30_encoding.md R79,
R83, R87). -/
def Obligations.WordDecodesToCommandIffItIsItsEncoding : Prop :=
  ∀ (w : CmdWord) (i : Instr), decode w = .ok i ↔ w = encode i

/-- The table of 30_encoding.md R87 is exactly what decodes, and its columns fit its words. -/
def Obligations.LegalWordTableIsExactlyWhatDecodes : Prop :=
  (∀ (w : CmdWord) (i : Instr), decode w = .ok i ↔ ∃ r ∈ legalWordTable, r.word = w ∧ r.instr = i) ∧
  (∀ r ∈ legalWordTable,
    r.word = r.opc.setWidth 32 ||| (r.v.setWidth 32 <<< 8) ||| (r.s.setWidth 32 <<< 10) ∧
    r.instr.format = r.format ∧ r.instr.mnemonic = r.mnemonic) ∧
  legalWordTable.length = 22

/-- 30_encoding.md R80: the words it lists are the ones that do not decode, and such a word raises
`IllegalCommand` and changes nothing but the fault record. -/
def Obligations.ListedIllegalWordsRaiseIllegalCommand : Prop :=
  (∀ w : CmdWord, isListedIllegal w ↔ ∃ e, decode w = .error e) ∧
  ∀ (s : State) (p : Ports) (rest : List HostMove),
    s.inbox = .issue p :: rest → s.resetPin = false → s.fault = false → s.ports = Ports.idle →
    isListedIllegal p.cmd →
    step s = .next (afterFault { s with inbox := rest } 3#4 p.cmd)

/-- A word of each of the seven opcodes as 30_encoding.md R87 writes it, and an illegal one of 95 V80. -/
def Obligations.WrittenOutWordsDecode : Prop :=
  decode 0b00000000000000000000000100000001#32 = .ok .constructMt ∧
  decode 0b00000000000000000000000000000010#32 = .ok .next ∧
  decode 0b00000000000000000000000000000011#32 = .ok .nextb ∧
  decode 0b00000000000000000000000000000100#32 = .ok .nextb0 ∧
  decode 0b00000000000000000000001000000101#32 = .ok .dieXs ∧
  decode 0b00000000000000000001010100000110#32 = .ok .dieMtD20 ∧
  decode 0b00000000000000000000000000000111#32 = .ok .roll ∧
  decode 0b00000000000000000001110100000110#32 = .error .shapeField

/-! ### The command step

In the statements about a step the host's command stands first in `State.inbox`, and the ports sampled with a
command in `State.ports`, which is idle between steps: that form is the model's choice (log entries 1 and 2),
the behaviour is the rule's. -/

/-- 40_capability.md R100: an accepted command that decodes runs its instruction on the ports sampled with
it. -/
def Obligations.StepRunsTheDecodedCommand : Prop :=
  ∀ (s : State) (p : Ports) (rest : List HostMove) (i : Instr),
    s.inbox = .issue p :: rest → s.resetPin = false → s.fault = false → decode p.cmd = .ok i →
    step s = mapNext State.release (exec i ((s.setInbox rest).accept p))

/-- The command of a table word, placed by `withFetchWord`, is the next one run. The values on the other
ports are the model's choice (log entry 8). -/
def Obligations.PlacedTableWordIsTheNextCommand : Prop :=
  ∀ (s : State) (w : Nat) (i : Instr),
    w < 2 ^ 32 → s.fault = false → decodeTableWord 32 w = some i →
    step (s.withFetchWord 32 w) =
      mapNext State.release
        (exec i { s with
          resetPin := false
          ports := ⟨BitVec.ofNat 32 w, 0#64, 0#64, 0#64, true⟩ })

/-- 30_encoding.md R82: what stands on a port that the command's format does not read changes nothing. -/
def Obligations.IgnoredPortsHaveNoEffect : Prop :=
  (∀ (s : State) (p q : Ports) (rest : List HostMove) (i : Instr),
    decode p.cmd = .ok i → Ports.agreeOn i.format p q →
    step (s.setInbox (.issue p :: rest)) = step (s.setInbox (.issue q :: rest))) ∧
  ∀ (s : State) (p q : Ports) (rest : List HostMove) (e : IllegalWord),
    decode p.cmd = .error e → p.cmd = q.cmd →
    step (s.setInbox (.issue p :: rest)) = step (s.setInbox (.issue q :: rest))

/-- With no move pending the unit waits and nothing changes: 70_reset_and_hazards.md R262 says that it waits
for commands; that a wait is a step is the model's choice (log entry 5). -/
def Obligations.UnitWithoutPendingMoveWaits : Prop :=
  ∀ s : State, s.inbox = [] → s.resetPin = false → step s = .next s

/-! ### Faults and the halted unit

In the statements about a step the host's command stands first in `State.inbox`, and the ports sampled with a
command in `State.ports`, which is idle between steps: that form is the model's choice (log entries 1 and 2),
the behaviour is the rule's. -/

/-- 60_exceptions.md R222: a command that raises a fault writes `FAULT`, the code of a cause in `CAUSE`, the
command word in `FAULT_CMD`, and no other register. -/
def Obligations.FaultsArePrecise : Prop :=
  ∀ (s t : State) (p : Ports) (rest : List HostMove),
    s.inbox = .issue p :: rest → s.resetPin = false → s.fault = false → s.ports = Ports.idle →
    step s = .next t → t.fault = true →
    ∃ c : Cause, t = afterFault { s with inbox := rest } (causeCode c) p.cmd

/-- 60_exceptions.md R221 and R225: each cause is raised by the commands and on the condition of its row,
after the causes that come before it, and has its code. -/
def Obligations.EachCauseIsRaisedOnItsCondition : Prop :=
  ∀ (c : Cause) (i : Instr) (s : State), s.fault = false →
    (exec i s = .next (afterFault s (causeCode c) s.ports.cmd) ↔ causeCondition c i s)

/-- 60_exceptions.md R223: a halted unit completes every command with no effect, can still be read, and
only reset (or power) changes its registers. -/
def Obligations.HaltedUnitOnlyLeavesByReset : Prop :=
  ∀ (s : State) (m : HostMove) (rest : List HostMove),
    s.fault = true → s.resetPin = false → s.inbox = m :: rest →
    (∀ p, m = .issue p → step s = .next { s with inbox := rest }) ∧
    (m = .readStatus → step s = .next { s with inbox := rest, hostRead := some (.status s.status) }) ∧
    (m = .readFaultCmd →
      step s = .next { s with inbox := rest, hostRead := some (.faultCmd s.faultCmd) }) ∧
    (∀ v, m = .readRes → s.resValid = true → s.res = some v →
      step s = .next { s with inbox := rest, hostRead := some (.res v) }) ∧
    (∀ t, step s = .next t → m ≠ .assertReset → m ≠ .powerCycle →
      t.fault = true ∧ t.unitOf = s.unitOf)

/-- 60_exceptions.md R223, R224 over any number of steps: from a halted unit, whatever the host issues without
resetting it, no state is final, nothing more is observed, and the first fault's record stays. -/
def Obligations.HaltedRunNeverEndsWell : Prop :=
  ∀ (n : Nat) (s t : State),
    s.fault = true → s.resetPin = false →
    (∀ m ∈ s.inbox, m ≠ .assertReset ∧ m ≠ .powerCycle) →
    Sys2Proof.core.run n s = .next t →
    t.isFinal = false ∧ t.unitOf = s.unitOf ∧ observedResValues n s = []

/-! ### Reset and the host's reads

In the statements about a step the host's command stands first in `State.inbox`, and the ports sampled with a
command in `State.ports`, which is idle between steps: that form is the model's choice (log entries 1 and 2),
the behaviour is the rule's. -/

/-- 70_reset_and_hazards.md R260, all the time `RESET` is asserted and as it is released: from any state, a
halted one too, every register has its reset value after asserting `RESET`; while it is asserted a command is
dropped, and a power cycle and a wait change nothing; after releasing it the registers still have their reset
values. The model's choice is that the host's side stays: its pending moves, what it last read (log entries 3
and 13), and that releasing a `RESET` that is low does nothing; that a read while `RESET` is asserted hands
back the reset value is an inference (log entry 20). -/
def Obligations.ResetGivesEveryRegisterItsResetValue : Prop :=
  ∀ s : State,
    (∀ (m : HostMove) (rest : List HostMove), s.inbox = m :: rest →
      (m = .assertReset ∨ (s.resetPin = true ∧ (m = .powerCycle ∨ ∃ p, m = .issue p))) →
      ∃ t, step s = .next t ∧ atResetValues t ∧
        t.resetPin = true ∧ t.inbox = rest ∧ t.hostRead = s.hostRead) ∧
    (s.inbox = [] → s.resetPin = true →
      ∃ t, step s = .next t ∧ atResetValues t ∧
        t.resetPin = true ∧ t.inbox = [] ∧ t.hostRead = s.hostRead) ∧
    (∀ rest, s.inbox = .releaseReset :: rest → s.resetPin = true →
      ∃ t, step s = .next t ∧ atResetValues t ∧
        t.resetPin = false ∧ t.inbox = rest ∧ t.hostRead = s.hostRead) ∧
    (∀ rest, s.inbox = .releaseReset :: rest → s.resetPin = false →
      step s = .next { s with inbox := rest }) ∧
    (∀ rest, s.inbox = .readStatus :: rest → s.resetPin = true →
      ∃ t, step s = .next t ∧ atResetValues t ∧
        t.resetPin = true ∧ t.inbox = rest ∧ t.hostRead = some (.status 0#32)) ∧
    (∀ rest, s.inbox = .readFaultCmd :: rest → s.resetPin = true →
      ∃ t, step s = .next t ∧ atResetValues t ∧
        t.resetPin = true ∧ t.inbox = rest ∧ t.hostRead = some (.faultCmd 0#32)) ∧
    (∀ rest, s.inbox = .readRes :: rest → s.resetPin = true →
      step s = .fault .resHoldsNoValue)

/-- 70_reset_and_hazards.md R261: power-on acts as a reset, and no value survives. That the level of `RESET` and
the pending moves stay as the host has them is the model's choice (log entry 3). -/
def Obligations.PowerOnActsAsReset : Prop :=
  ∀ (s : State) (rest : List HostMove), s.inbox = .powerCycle :: rest →
    ∃ t, step s = .next t ∧ t.unitOf = State.reset ∧ t.inbox = rest ∧ t.resetPin = s.resetPin

/-- 10_state.md R35: the values of the registers after reset, and `STATUS` with them (95 V95). -/
def Obligations.ResetStateHoldsTheTableValues : Prop :=
  State.reset.variant = .none ∧ State.reset.mtWord = none ∧ State.reset.mtCursor = none ∧
  State.reset.xsState = none ∧ State.reset.sides = none ∧ State.reset.dieValid = false ∧
  State.reset.res = none ∧ State.reset.resValid = false ∧ State.reset.fault = false ∧
  State.reset.cause = 0#4 ∧ State.reset.faultCmd = 0#32 ∧ State.reset.status = 0#32

/-- 10_state.md R29 to R31, 20_memory.md R56: a host read hands back the register and changes nothing of the
unit; a read of `RES` while it holds no value faults. Where the value handed back is kept is the model's
choice (log entry 13). -/
def Obligations.HostReadsHandBackTheRegister : Prop :=
  ∀ (s : State) (rest : List HostMove), s.resetPin = false →
    (s.inbox = .readStatus :: rest →
      step s = .next { s with inbox := rest, hostRead := some (.status s.status) }) ∧
    (s.inbox = .readFaultCmd :: rest →
      step s = .next { s with inbox := rest, hostRead := some (.faultCmd s.faultCmd) }) ∧
    (∀ v, s.inbox = .readRes :: rest → s.resValid = true → s.res = some v →
      step s = .next { s with inbox := rest, hostRead := some (.res v) }) ∧
    (s.inbox = .readRes :: rest → s.resValid = false → step s = .fault .resHoldsNoValue)

/-- 10_state.md R30: every field of `STATUS` at its bits, the reserved bits 0; and, in a state that meets the
invariant, `CAUSE` is 0 while `FAULT` is 0. -/
def Obligations.StatusFieldsMirrorTheRegisters : Prop :=
  ∀ s : State,
    (s.status.getLsbD 0 = s.fault ∧
     s.status.extractLsb' 1 3 = 0#3 ∧
     s.status.extractLsb' 4 4 = s.cause ∧
     s.status.extractLsb' 8 2 = (match s.variant with | .none => 0#2 | .mt => 1#2 | .xs => 2#2) ∧
     s.status.getLsbD 10 = s.dieValid ∧
     s.status.getLsbD 11 = s.resValid ∧
     s.status.extractLsb' 12 20 = 0#20) ∧
    (s.Inv → s.fault = false → s.status.extractLsb' 4 4 = 0#4)

/-! ### Invariants -/

/-- The invariant of reachable states (10_state.md R24, R26, R36; 70_reset_and_hazards.md R260) is kept by
every step, from every state that meets it. -/
def Obligations.EveryStepKeepsTheInvariant : Prop :=
  ∀ s t : State, s.Inv → step s = .next t → t.Inv

/-- The state after reset meets the invariant. -/
def Obligations.ResetMeetsTheInvariant : Prop := State.reset.Inv

/-- In a state that meets the invariant the machine never stops, but for one move: a read of `RES` while
`RES_VALID = 0` (10_state.md R24, R29). No command reads a register that holds no value. -/
def Obligations.OnlyAReadOfAbsentResultStops : Prop :=
  ∀ s : State, s.Inv →
    (∃ t, step s = .next t) ∨
    (∃ rest, s.inbox = .readRes :: rest ∧ s.resValid = false ∧ step s = .fault .resHoldsNoValue)

/-- In a state that meets the invariant every command, on any ports, answers a next state; with a generator
constructed, a draw is possible (10_state.md R24, 40_capability.md R104). -/
def Obligations.EveryCommandAnswersFromTheInvariant : Prop :=
  ∀ s : State, s.Inv →
    (∀ (p : Ports) (i : Instr), ∃ t, exec i (s.accept p) = .next t) ∧
    (s.variant ≠ .none → ∃ r t, drawsValue s r t)

/-! ### Constructs -/

/-- 40_capability.md R102: CONSTRUCT.MT and CONSTRUCT.XS build a bare generator, or raise `ClockError`. -/
def Obligations.ConstructCommandsBuildABareGenerator : Prop :=
  ∀ s : State,
    (s.ports.seedValid = true →
      exec .constructMt s = .next { afterMtSeed s with sides := none, dieValid := false } ∧
      exec .constructXs s = .next { afterXsSeed s with sides := none, dieValid := false }) ∧
    (s.ports.seedValid = false →
      exec .constructMt s = .next (afterFault s 2#4 s.ports.cmd) ∧
      exec .constructXs s = .next (afterFault s 2#4 s.ports.cmd))

/-- 43_die.md R192: DIE.MT and DIE.XS build a die with `OPA` sides, 0 included, or raise `ClockError`. -/
def Obligations.DieCommandsBuildADieOfAnySides : Prop :=
  ∀ s : State,
    (s.ports.seedValid = true →
      exec .dieMt s = .next { afterMtSeed s with sides := some s.ports.opa, dieValid := true } ∧
      exec .dieXs s = .next { afterXsSeed s with sides := some s.ports.opa, dieValid := true }) ∧
    (s.ports.seedValid = false →
      exec .dieMt s = .next (afterFault s 2#4 s.ports.cmd) ∧
      exec .dieXs s = .next (afterFault s 2#4 s.ports.cmd))

/-- 43_die.md R191, R193: each of the fourteen fixed-shape commands builds a die of its shape's sides, or
raises `ClockError`. -/
def Obligations.FixedShapeCommandsBuildTheirDie : Prop :=
  ∀ s : State,
    (s.ports.seedValid = true →
      (∀ row ∈ mtShapeTable,
        exec row.1 s = .next { afterMtSeed s with sides := some row.2, dieValid := true }) ∧
      (∀ row ∈ xsShapeTable,
        exec row.1 s = .next { afterXsSeed s with sides := some row.2, dieValid := true })) ∧
    (s.ports.seedValid = false →
      ∀ row ∈ mtShapeTable ++ xsShapeTable, exec row.1 s = .next (afterFault s 2#4 s.ports.cmd))

/-- 43_die.md R193: DIE.Dn and DIE with `OPA = n` leave the same state for the same seed. -/
def Obligations.FixedShapeEqualsGeneralDie : Prop :=
  ∀ s : State,
    (∀ row ∈ mtShapeTable, s.ports.opa = row.2 → exec row.1 s = exec .dieMt s) ∧
    (∀ row ∈ xsShapeTable, s.ports.opa = row.2 → exec row.1 s = exec .dieXs s)

/-- 40_capability.md R111: the generator that a construct leaves depends only on `SEED` and `V`: two constructs
of one `V`, the same command or not, on one seed leave the same generator, whatever the states before and the
other ports. The die depends on the command, and its sides on `OPA` where the command reads it. -/
def Obligations.ConstructForgetsThePreviousGenerator : Prop :=
  ∀ (i j : Instr) (s₁ s₂ : State),
    i.format.readsSeed = true → j.format.readsSeed = true → (encodeFields i).v = (encodeFields j).v →
    s₁.ports.seed = s₂.ports.seed → s₁.ports.seedValid = true → s₂.ports.seedValid = true →
    ∃ t₁ t₂, exec i s₁ = .next t₁ ∧ exec j s₂ = .next t₂ ∧
      t₁.variant = t₂.variant ∧ t₁.mtWord = t₂.mtWord ∧ t₁.mtCursor = t₂.mtCursor ∧
      t₁.xsState = t₂.xsState ∧
      (i = j → t₁.dieValid = t₂.dieValid ∧
        ((i.format.readsOpa = true → s₁.ports.opa = s₂.ports.opa) → t₁.sides = t₂.sides))

/-- The frame of the eighteen construct commands (40_capability.md R102, 43_die.md R192, R193): `RES` and
`RES_VALID` never change; a construct that completes leaves the fault record; one that faults leaves the
generator and the die. -/
def Obligations.ConstructFrame : Prop :=
  ∀ (i : Instr) (s t : State), i.format.readsSeed = true → exec i s = .next t →
    t.res = s.res ∧ t.resValid = s.resValid ∧
    t.resetPin = s.resetPin ∧ t.ports = s.ports ∧ t.inbox = s.inbox ∧ t.hostRead = s.hostRead ∧
    (s.ports.seedValid = true → t.fault = s.fault ∧ t.cause = s.cause ∧ t.faultCmd = s.faultCmd) ∧
    (s.ports.seedValid = false →
      t.variant = s.variant ∧ t.mtWord = s.mtWord ∧ t.mtCursor = s.mtCursor ∧
      t.xsState = s.xsState ∧ t.sides = s.sides ∧ t.dieValid = s.dieValid)

/-! ### Draws -/

/-- 40_capability.md R103: NEXT returns one draw in `RES`, or raises `NotConstructed`. -/
def Obligations.NextReturnsOneDraw : Prop :=
  ∀ s : State,
    (∀ r t, drawsValue s r t → exec .next s = .next { t with res := some r, resValid := true }) ∧
    (s.variant = .none → exec .next s = .next (afterFault s 4#4 s.ports.cmd))

/-- 40_capability.md R105: NEXTB returns `min + (r mod (max - min))`, or raises the first of its faults. -/
def Obligations.NextbReturnsOneBoundedDraw : Prop :=
  ∀ s : State,
    (∀ r t, drawsValue s r t → s.ports.opa < s.ports.opb →
      exec .nextb s = .next { t with
        res := some (s.ports.opa + r % (s.ports.opb - s.ports.opa))
        resValid := true }) ∧
    (s.variant = .none → exec .nextb s = .next (afterFault s 4#4 s.ports.cmd)) ∧
    (s.variant ≠ .none → s.ports.opb < s.ports.opa →
      exec .nextb s = .next (afterFault s 5#4 s.ports.cmd)) ∧
    (s.variant ≠ .none → s.ports.opb = s.ports.opa →
      exec .nextb s = .next (afterFault s 1#4 s.ports.cmd))

/-- 40_capability.md R107: NEXTB0 returns `r mod max`, or raises the first of its faults. -/
def Obligations.Nextb0ReturnsOneDrawBelowMax : Prop :=
  ∀ s : State,
    (∀ r t, drawsValue s r t → s.ports.opa ≠ 0#64 →
      exec .nextb0 s = .next { t with res := some (r % s.ports.opa), resValid := true }) ∧
    (s.variant = .none → exec .nextb0 s = .next (afterFault s 4#4 s.ports.cmd)) ∧
    (s.variant ≠ .none → s.ports.opa = 0#64 →
      exec .nextb0 s = .next (afterFault s 1#4 s.ports.cmd))

/-- 40_capability.md R107: NEXTB0 with operand m does what NEXTB with `OPA = 0` and `OPB = m` does, in every
state and for every m. -/
def Obligations.Nextb0IsNextbFromZero : Prop :=
  ∀ s : State,
    exec .nextb { s with ports := { s.ports with opa := 0#64, opb := s.ports.opa } } =
      mapNext (fun t => { t with ports := { s.ports with opa := 0#64, opb := s.ports.opa } })
        (exec .nextb0 s)

/-- 40_capability.md R109: the bounded-range mapping stays in its range and never wraps. -/
def Obligations.BoundedStaysInItsRange : Prop :=
  ∀ min max r : Word, min < max →
    (bounded min max r).toNat = min.toNat + r.toNat % (max.toNat - min.toNat) ∧
    min ≤ bounded min max r ∧ bounded min max r < max

/-- The frame of the four draw commands (40_capability.md R103, R105, R107; 43_die.md R194): `VARIANT` and the
die never change; the state of the engine not held never changes; a draw in Ready leaves the state vector;
one that completes leaves the fault record; one that faults leaves the generator and `RES`. -/
def Obligations.DrawFrame : Prop :=
  ∀ (i : Instr) (s t : State), i.draws = true → s.fault = false → exec i s = .next t →
    t.variant = s.variant ∧ t.sides = s.sides ∧ t.dieValid = s.dieValid ∧
    t.resetPin = s.resetPin ∧ t.ports = s.ports ∧ t.inbox = s.inbox ∧ t.hostRead = s.hostRead ∧
    (s.variant ≠ .mt → t.mtWord = s.mtWord ∧ t.mtCursor = s.mtCursor) ∧
    (s.variant ≠ .xs → t.xsState = s.xsState) ∧
    (∀ k, s.mtCursor = some k → k.toNat < 312 → t.mtWord = s.mtWord) ∧
    (t.fault = false → t.cause = s.cause ∧ t.faultCmd = s.faultCmd) ∧
    (t.fault = true →
      t.mtWord = s.mtWord ∧ t.mtCursor = s.mtCursor ∧ t.xsState = s.xsState ∧
      t.res = s.res ∧ t.resValid = s.resValid)

/-- 10_state.md R20, R25, R26: only a construct command, or reset, changes `VARIANT`, `SIDES` or
`DIE_VALID`. -/
def Obligations.OnlyConstructOrResetChangesVariantAndDie : Prop :=
  ∀ s t : State, step s = .next t → s.resetPin = false →
    (t.variant ≠ s.variant ∨ t.sides ≠ s.sides ∨ t.dieValid ≠ s.dieValid) →
    (∃ i, s.pendingCommand = some i ∧ i.format.readsSeed = true) ∨
    (∃ rest, s.inbox = .assertReset :: rest) ∨ (∃ rest, s.inbox = .powerCycle :: rest)

/-- 10_state.md R29: only a NEXT, NEXTB, NEXTB0 or ROLL that completes, or reset, changes `RES` or
`RES_VALID`; and after one that completes `RES_VALID` is 1 and `RES` is what is observed. -/
def Obligations.OnlyACompletedDrawOrResetChangesTheResult : Prop :=
  ∀ s t : State, step s = .next t → s.resetPin = false →
    ((t.res ≠ s.res ∨ t.resValid ≠ s.resValid) →
      (∃ i, s.pendingCommand = some i ∧ i.draws = true ∧ t.fault = false) ∨
      (∃ rest, s.inbox = .assertReset :: rest) ∨ (∃ rest, s.inbox = .powerCycle :: rest)) ∧
    (∀ i, s.pendingCommand = some i → i.draws = true → t.fault = false →
      t.resValid = true ∧ ∃ r, t.res = some r ∧ observedRes s t = [r])

/-! ### ROLL -/

/-- 43_die.md R194: ROLL returns `1 + (r mod SIDES)`, or raises the first of its faults. -/
def Obligations.RollReturnsOneFace : Prop :=
  ∀ s : State,
    (∀ r t n, drawsValue s r t → s.dieValid = true → s.sides = some n →
      n ≠ 0#64 → n ≠ 0xFFFFFFFFFFFFFFFF#64 →
      exec .roll s = .next { t with res := some (1#64 + r % n), resValid := true }) ∧
    (s.variant = .none → exec .roll s = .next (afterFault s 4#4 s.ports.cmd)) ∧
    (s.variant ≠ .none → s.dieValid = false →
      exec .roll s = .next (afterFault s 7#4 s.ports.cmd)) ∧
    (s.variant ≠ .none → s.dieValid = true → s.sides = some 0xFFFFFFFFFFFFFFFF#64 →
      exec .roll s = .next (afterFault s 6#4 s.ports.cmd)) ∧
    (s.variant ≠ .none → s.dieValid = true → s.sides = some 0#64 →
      exec .roll s = .next (afterFault s 1#4 s.ports.cmd))

/-- 43_die.md R195: a ROLL that completes returns a face in `[1, SIDES]` and advances the generator by exactly
one draw. -/
def Obligations.CompletedRollIsAFaceOfTheDie : Prop :=
  ∀ s t : State, s.GeneratorHeld → s.fault = false → exec .roll s = .next t → t.fault = false →
    ∃ n r g x, s.sides = some n ∧ drawsValue s r g ∧ x = 1#64 + r % n ∧
      t = { g with res := some x, resValid := true } ∧ 1 ≤ x.toNat ∧ x.toNat ≤ n.toNat

/-- 43_die.md R196: a one-sided die rolls 1, and its generator still advances by one draw. -/
def Obligations.OneSidedDieRollsOne : Prop :=
  ∀ (s : State) (r : Word) (t : State),
    drawsValue s r t → s.dieValid = true → s.sides = some 1#64 →
    exec .roll s = .next { t with res := some 1#64, resValid := true }

/-- 43_die.md R199: on a Mersenne Twister die with more than 2^31 sides a ROLL returns `1 + r`, never above
2^31. -/
def Obligations.LargeMtDieReturnsOnePlusTheDraw : Prop :=
  ∀ (s : State) (v : MtVec) (k : BitVec 9) (n : Word),
    holdsMt s v k → s.dieValid = true → s.sides = some n → 2 ^ 31 < n.toNat →
    n ≠ 0xFFFFFFFFFFFFFFFF#64 →
    exec .roll s = .next { mtDrawnState v k s with
      res := some (1#64 + mtDrawnValue v k)
      resValid := true } ∧
    (1#64 + mtDrawnValue v k).toNat ≤ 2 ^ 31

/-! ### The Mersenne Twister engine -/

/-- 41_mersenne_twister.md R134: the seeding pass word by word, and the cursor, with the document's
literals. -/
def Obligations.SeedingPassFillsTheVectorInOrder : Prop :=
  ∀ q : Word,
    (mtSeed Config.unit q).word 0 = q ∧
    (∀ i, 1 ≤ i → i ≤ 311 →
      (mtSeed Config.unit q).word i =
        (6364136223846793005#64 *
            ((mtSeed Config.unit q).word (i - 1) ^^^ ((mtSeed Config.unit q).word (i - 1) >>> 29)) +
          BitVec.ofNat 64 i) &&& 0x000000007FFFFFFF#64) ∧
    (∀ s t : State, s.ports.seed = q → s.ports.seedValid = true → exec .constructMt s = .next t →
      t.mtWord = some (mtSeed Config.unit q) ∧ t.mtCursor = some 312#9)

/-- 41_mersenne_twister.md R145: words 1 to 311 are below 2^31 and depend on the seed only through
`(seed ^ (seed >> 29)) & 0x7FFFFFFF`, so only through its bits 0 to 59. -/
def Obligations.SeededWordsDependOnTheMixedSeedBits : Prop :=
  (∀ (q : Word) (i : Nat), 1 ≤ i → i ≤ 311 → ((mtSeed Config.unit q).word i).toNat < 2 ^ 31) ∧
  (∀ (q q' : Word), seedMix q = seedMix q' →
    ∀ i, 1 ≤ i → i ≤ 311 → (mtSeed Config.unit q).word i = (mtSeed Config.unit q').word i) ∧
  (∀ (q q' : Word), (∀ j, j < 60 → q.getLsbD j = q'.getLsbD j) → seedMix q = seedMix q') ∧
  (∀ q : Word, q = 0#64 ∨ q = 0xFFFFFFFFFFFFFFFF#64 →
    (mtSeed Config.unit q).word 0 = q ∧ (mtSeed Config.unit q).word 1 = 1#64 ∧
    (mtSeed Config.unit q).word 2 = 0x4C957F2F#64)

/-- 41_mersenne_twister.md R137: what each iteration of the in-place twist reads, old or new; and the rule's
example, whose words 156, 157 and 311 a snapshot would leave otherwise. -/
def Obligations.TwistReadsOldAndNewWordsInPlace : Prop :=
  (∀ (v : MtVec) (i : Nat), i ≤ 311 →
    (twist Config.unit v).word i =
      twistWord Config.unit (v.word i)
        (if i ≤ 310 then v.word (i + 1) else (twist Config.unit v).word 0)
        (if i ≤ 155 then v.word (i + 156) else (twist Config.unit v).word (i - 156))) ∧
  (∀ i, i ≤ 311 →
    (twist Config.unit twistExample).word i =
      if i = 0 ∨ i = 1 ∨ i = 156 ∨ i = 157 then 0xB5026F5AA96619E8#64
      else if i = 311 then 0x14B30CF4#64 else 0#64) ∧
  (∀ i, i = 156 ∨ i = 157 ∨ i = 311 →
    twistWord Config.unit (twistExample.word i) (twistExample.word (i + 1)) (twistExample.word (i + 156)) ≠
      (twist Config.unit twistExample).word i)

/-- 41_mersenne_twister.md R138: the shape of `x` and of `y`, and when the xor with `MATRIX_A` happens. -/
def Obligations.TwistWordHasTheNormativeShape : Prop :=
  ∀ a b d : Word,
    ((a &&& 0xFFFFFFFF7FFFFFFF#64) ||| (b &&& 0x000000007FFFFFFF#64)) =
      a.extractLsb' 32 32 ++ 0#1 ++ (a ||| b).extractLsb' 0 31 ∧
    twistWord Config.unit a b d =
      d ^^^ ((0#1 ++ a.extractLsb' 32 32 ++ 0#1 ++ (a ||| b).extractLsb' 1 30) ^^^
        (if a.getLsbD 1 || b.getLsbD 1 then 0xB5026F5AA96619E9#64 else 0#64)) ∧
    twistWord Config.unit 0x80000000#64 0#64 0#64 = 0#64 ∧
    twistWord Config.unit 0#64 3#64 0#64 = twistWord Config.unit 0#64 2#64 0#64

/-- 41_mersenne_twister.md R139: the all-zero vector twists to the all-zero vector. -/
def Obligations.ZeroVectorTwistsToZero : Prop :=
  ∀ v : MtVec, (∀ i, i ≤ 311 → v.word i = 0#64) → twist Config.unit v = v

/-- 41_mersenne_twister.md R140: the tempering cascade with the document's literals. -/
def Obligations.TemperIsTheFourStepCascade : Prop :=
  temper Config.unit 1#64 = 0x0040002000020801#64 ∧ temper Config.unit 0#64 = 0#64 ∧
  ∀ y : Word,
    ∃ y₁ y₂ y₃ : Word,
      y₁ = y ^^^ ((y >>> 29) &&& 0x5555555555555555#64) ∧
      y₂ = y₁ ^^^ ((y₁ <<< 17) &&& 0x71D67FFFEDA60000#64) ∧
      y₃ = y₂ ^^^ ((y₂ <<< 37) &&& 0xFFF7EEE000000000#64) ∧
      temper Config.unit y = y₃ ^^^ (y₃ >>> 43)

/-- 41_mersenne_twister.md R141: a Mersenne Twister draw is below 2^31; bits 63 to 31 of `RES` are 0 after
it. -/
def Obligations.MtDrawFitsThirtyOneBits : Prop :=
  ∀ (s : State) (v : MtVec) (k : BitVec 9), holdsMt s v k →
    ∃ t r, exec .next s = .next t ∧ t.res = some r ∧ r = mtDrawnValue v k ∧ r.toNat < 2 ^ 31 ∧
      r.extractLsb' 31 33 = 0#33

/-- 41_mersenne_twister.md R142, R143: the only moves of the cursor. A command keeps it; or is a completed
draw, which adds 1 in Ready and, in NeedsTwist, twists and leaves 1; or is a construct, which sets it to 312
(MT) or drops it (XS). -/
def Obligations.CursorMovesOnlyByOneExtraction : Prop :=
  ∀ (i : Instr) (s t : State) (v : MtVec) (k : BitVec 9), holdsMt s v k → exec i s = .next t →
    (t.mtCursor = some k ∧ t.mtWord = some v) ∨
    (i.draws = true ∧ k.toNat < 312 ∧ t.mtCursor = some (k + 1#9) ∧ t.mtWord = some v) ∨
    (i.draws = true ∧ k = 312#9 ∧ t.mtCursor = some 1#9 ∧ t.mtWord = some (twist Config.unit v)) ∨
    (i.format.readsSeed = true ∧ t.variant = .mt ∧ t.mtCursor = some 312#9) ∨
    (i.format.readsSeed = true ∧ t.variant = .xs ∧ t.mtCursor = none)

/-- 41_mersenne_twister.md R144: after `n` draws from any construct with variant MT, drawn by NEXT, the cursor and the number of twists, and
which draws twist. -/
def Obligations.DrawCountFixesCursorAndTwists : Prop :=
  ∀ (i : Instr) (s₀ s : State), i.format.readsSeed = true → s₀.ports.seedValid = true →
    exec i s₀ = .next s → s.variant = .mt →
    ∀ n, 1 ≤ n →
      ∃ t' t, nextTimes (n - 1) s = .next t' ∧ nextTimes n s = .next t ∧
        (t'.NeedsTwist = true ↔ n % 312 = 1) ∧
        t.mtCursor = some (BitVec.ofNat 9 ((n - 1) % 312 + 1)) ∧
        twistsDuring n s = (n + 311) / 312

/-! ### The Xorshift* network -/

/-- 42_xorshift.md R171: the engine's update and output with the document's literals. -/
def Obligations.XorshiftStepsAreSequential : Prop :=
  ∀ x : Word, xsStep Config.unit x = xsUpdated x ∧
    xsNextValue Config.unit x = xsUpdated x * 0x2545F4914F6CDD1D#64 ∧
    ∀ s : State, holdsXs s x →
      exec .next s = .next { s with
        xsState := some (xsUpdated x)
        res := some (xsUpdated x * 0x2545F4914F6CDD1D#64)
        resValid := true }

/-- 42_xorshift.md R174: the update is one-to-one, 0 is its fixed point and no other state maps to 0; a draw
returns 0 exactly from state 0; and then NEXT returns 0, NEXTB `min` and ROLL 1; seed 0 is accepted and
gives that state. -/
def Obligations.XorshiftZeroStateIsTheIsolatedFixedPoint : Prop :=
  (∀ x y : Word, xsStep Config.unit x = xsStep Config.unit y → x = y) ∧
  (∀ x : Word, xsStep Config.unit x = 0#64 ↔ x = 0#64) ∧
  (∀ x : Word, xsNextValue Config.unit x = 0#64 ↔ x = 0#64) ∧
  (∀ s : State, holdsXs s 0#64 →
    exec .next s = .next { s with res := some 0#64, resValid := true } ∧
    (s.ports.opa < s.ports.opb →
      exec .nextb s = .next { s with res := some s.ports.opa, resValid := true }) ∧
    (∀ n, s.dieValid = true → s.sides = some n → n ≠ 0#64 → n ≠ 0xFFFFFFFFFFFFFFFF#64 →
      exec .roll s = .next { s with res := some 1#64, resValid := true })) ∧
  (∀ s : State, s.ports.seedValid = true → s.ports.seed = 0#64 →
    ∃ t, exec .constructXs s = .next t ∧ holdsXs t 0#64)

/-- 42_xorshift.md R175: after any construct with variant XS and seed `q`, draw `k`, drawn by NEXT, returns
`F^k(q) * XS_MULT` and leaves `F^k(q)`. -/
def Obligations.XorshiftDrawsIterateTheUpdate : Prop :=
  ∀ (i : Instr) (s₀ s : State), i.format.readsSeed = true → s₀.ports.seedValid = true →
    exec i s₀ = .next s → s.variant = .xs →
    ∀ n, 1 ≤ n →
      ∃ t, nextTimes n s = .next t ∧
        t.xsState = some (xsUpdated^[n] s₀.ports.seed) ∧
        t.res = some (xsUpdated^[n] s₀.ports.seed * 0x2545F4914F6CDD1D#64)

/-! ### The assembler -/

/-- 30_encoding.md R78, R84: an assembled command is the command's word with each operand on its port and
every ignored port 0. -/
def Obligations.AssembledCommandPlacesItsOperands : Prop :=
  ∀ (i : Instr) (operands : List Word) (seed : Option Word) (p : Ports),
    assembleCommand i operands seed = some p →
    decode p.cmd = .ok i ∧
    operands = (if i.format.readsOpa then [p.opa] else []) ++ (if i.format.readsOpb then [p.opb] else []) ∧
    (i.format.readsOpa = false → p.opa = 0#64) ∧ (i.format.readsOpb = false → p.opb = 0#64) ∧
    (i.format.readsSeed = true → p.seedValid = seed.isSome ∧ ∀ q, seed = some q → p.seed = q) ∧
    (i.format.readsSeed = false → p.seed = 0#64 ∧ p.seedValid = false)

/-- 30_encoding.md R85, R86: the expansions of the pseudo-instructions: all fourteen lines `DIE.MT d<n>` and
`DIE.XS d<n>`, as text and for every variant and shape; `ROLLS k`, not with `k` = 0; and `CLI.DEFAULT`. The
blank between the parts of a line is the model's reading (log entry 16). -/
def Obligations.PseudoInstructionsExpand : Prop :=
  (∀ row ∈ dieShapeLines, ∃ l, parseLine row.1.toList = some [l] ∧ l.expand = [(row.2, [])]) ∧
  (∀ (e : Engine) (sh : Shape), ∃ i, (AsmLine.dieShape e sh).expand = [(i, [])] ∧ i.format = .fvs ∧
    (encodeFields i).v = (match e with | .mt => 1#2 | .xs => 2#2) ∧
    (encodeFields i).s.toNat = sh.code.val) ∧
  parseLine "ROLLS 0".toList = none ∧
  (∀ k : Nat, (AsmLine.rolls k).expand.length = k ∧ ∀ c ∈ (AsmLine.rolls k).expand, c = (.roll, [])) ∧
  AsmLine.cliDefault.expand = [(.dieMtD20, []), (.roll, [])]

/-! ### The configuration as a parameter -/

/-- 00_scope.md R3 and section 4: the configuration is a parameter of the step relation, this unit is the machine
under the normative record (41_mersenne_twister.md R146), and the record holds the document's values. -/
def Obligations.TheUnitIsTheMachineUnderTheNormativeConfiguration : Prop :=
  (∀ s : State, step s = stepUnder Config.normative s) ∧
  (∀ (i : Instr) (s : State), exec i s = execUnder Config.normative i s) ∧
  Config.normative =
    { w := 64, nn := 312, mm := 156, seedMult := 6364136223846793005#64, seedShift := 29
      seedMask := 0x7FFFFFFF#64, lowerMask := 0x7FFFFFFF#64, upperMask := 0xFFFFFFFF7FFFFFFF#64
      matrixA := 0xB5026F5AA96619E9#64, twistOddTest := .postShift
      tU := 29, tD := 0x5555555555555555#64, tS := 17, tB := 0x71D67FFFEDA60000#64
      tT := 37, tC := 0xFFF7EEE000000000#64, tL := 43, outMask := 0x7FFFFFFF#64
      xsA := 12, xsB := 25, xsC := 27, xsMult := 0x2545F4914F6CDD1D#64
      dieShapes := #v[4#64, 6#64, 8#64, 10#64, 12#64, 20#64, 100#64] } ∧
  Config.normative.Fits

/-- The invariant of reachable states (10_state.md R24, R26, R36; 70_reset_and_hazards.md R260) is kept by every
step under EVERY configuration that fits the registers, whatever its literals (00_scope.md R3, 92 D15). -/
def Obligations.EveryConfigurationKeepsTheInvariant : Prop :=
  ∀ c : Config, c.Fits → ∀ s t : State, s.Inv → stepUnder c s = .next t → t.Inv

/-! ### Runs -/

/-- 70_reset_and_hazards.md R274 with 60_exceptions.md R223: a run in which a command faults never ends well:
nothing more of `RES` is observed, and the final `STATUS` and `FAULT_CMD` are those the fault left. That a reset
in between would start another run is the model's choice (log entry 21). -/
def Obligations.RunWithAFaultNeverEndsWell : Prop :=
  ∀ (n k : Nat) (s t : State),
    isRun n s = true → k ≤ n → Sys2Proof.core.run k s = .next t → t.fault = true →
    runEndsWell n s = false ∧ observedResValues n s = observedResValues k s ∧
    ∀ o, observe n s = some o →
      o.faulted = true ∧ o.status = t.status ∧ o.faultCmd = t.faultCmd

/-- 70_reset_and_hazards.md R263, R274 with 43_die.md R194, R195: a run that constructs a die, of any kind but one
with 0 or 2^64 - 1 sides, from a valid seed, and then rolls it, ends well, and observes one face in
`[1, SIDES]` a roll. -/
def Obligations.RunOfADieEndsWellAndObservesItsRolls : Prop :=
  ∀ (s : State) (p : Ports) (i : Instr) (n : Word) (rolls : List Ports),
    s.startsRun = true → s.inbox = .issue p :: rolls.map .issue →
    decode p.cmd = .ok i → dieSidesOf i p = some n → p.seedValid = true →
    n ≠ 0#64 → n ≠ 0xFFFFFFFFFFFFFFFF#64 → (∀ q ∈ rolls, decode q.cmd = .ok .roll) →
    isRun (rolls.length + 1) s = true ∧ runEndsWell (rolls.length + 1) s = true ∧
    ∃ o, observe (rolls.length + 1) s = some o ∧ o.resValues.length = rolls.length ∧
      (∀ x ∈ o.resValues, 1 ≤ x.toNat ∧ x.toNat ≤ n.toNat) ∧ o.faultCmd = 0#32
end

