-- ==== Sys2Proof/Laws/Engine.lean ====
section
/-! SUPPORT. The state vector's access, the seeding pass and the twist loop, one iteration at a time
(41_mersenne_twister.md R134, R135), and the outputs of both engines. -/

namespace Sys2Proof

/-- Reading the word just written (indices are modulo 312). -/
theorem MtVec.word_setWord_same (v : MtVec) (x : Word) {i j : Nat} (h : i % nn = j % nn) :
    (v.setWord i x).word j = x := by
  simp [MtVec.word, MtVec.setWord, h]

/-- A write leaves every other word alone. -/
theorem MtVec.word_setWord_other (v : MtVec) (x : Word) {i j : Nat} (h : i % nn ≠ j % nn) :
    (v.setWord i x).word j = v.word j := by
  simp [MtVec.word, MtVec.setWord, h]

/-- An index and the same index plus 312 name one word. -/
@[simp] theorem MtVec.word_add_nn (v : MtVec) (i : Nat) : v.word (i + nn) = v.word i := by
  simp [MtVec.word]

/-- An index and its remainder modulo 312 name one word. -/
@[simp] theorem MtVec.word_mod_nn (v : MtVec) (i : Nat) : v.word (i % nn) = v.word i := by
  simp [MtVec.word]

/-- The normative configuration fits the registers (00_scope.md section 4). -/
theorem Config.fits_unit : Config.unit.Fits := ⟨rfl, by decide, by decide⟩

/-- Two vectors with equal words are equal. -/
theorem MtVec.ext_word {v w : MtVec} (h : ∀ i, i < nn → v.word i = w.word i) : v = w := by
  apply Vector.ext
  intro i hi
  simpa [MtVec.word, Nat.mod_eq_of_lt hi] using h i hi

namespace Machine

/-- Every iteration of the twist writes exactly one word (41_mersenne_twister.md R135). -/
theorem word_twistAt_other (c : Config) (v : MtVec) {i j : Nat} (h : i % nn ≠ j % nn) :
    (twistAt c v i).word j = v.word j :=
  v.word_setWord_other _ h

/-- The word iteration `i` writes, from the vector as the iterations before it left it. -/
theorem word_twistAt_same (c : Config) (v : MtVec) (i : Nat) :
    (twistAt c v i).word i =
      twistWord c (v.word i) (v.word ((i + 1) % c.nn)) (v.word ((i + c.mm) % c.nn)) :=
  v.word_setWord_same _ rfl

/-- A word whose iteration has not run yet is the old one. -/
theorem word_twistLoop_notYet (c : Config) (v : MtVec) {n j : Nat} (hn : n ≤ j) (hj : j < nn) :
    (twistLoop c n v).word j = v.word j := by
  induction n with
  | zero => rfl
  | succ n ih =>
    have hne : n % nn ≠ j % nn := by
      rw [Nat.mod_eq_of_lt hj, Nat.mod_eq_of_lt (by omega)]
      omega
    rw [twistLoop, word_twistAt_other c _ hne]
    exact ih (by omega)

/-- A word whose iteration has run is not written again in the pass. -/
theorem word_twistLoop_done (c : Config) (v : MtVec) {n j : Nat} (hn : n ≤ nn) (hj : j < n) :
    (twistLoop c n v).word j = (twistLoop c (j + 1) v).word j := by
  induction n with
  | zero => omega
  | succ n ih =>
    rcases Nat.lt_succ_iff_lt_or_eq.mp hj with h | h
    · have hne : n % nn ≠ j % nn := by
        rw [Nat.mod_eq_of_lt (by omega), Nat.mod_eq_of_lt (by omega)]
        omega
      rw [twistLoop, word_twistAt_other c _ hne]
      exact ih (by omega) h
    · rw [h]

/-- Word `i` of the seeding pass, by the pass's own recursion. -/
theorem seedFrom_get (c : Config) (n i k : Nat) (w : Word) (h : k + 1 < n) :
    (seedFrom c n i w)[k + 1]'(by rw [seedFrom_length]; exact h) =
      seedWord c (i + k + 1) ((seedFrom c n i w)[k]'(by rw [seedFrom_length]; omega)) := by
  induction k generalizing n i w with
  | zero =>
    match n, h with
    | n + 2, _ => rfl
  | succ k ih =>
    match n, h with
    | n + 1, h =>
      have := ih n (i + 1) (seedWord c (i + 1) w) (by omega)
      rw [show i + 1 + k + 1 = i + (k + 1) + 1 from by omega] at this
      simpa [seedFrom] using this

/-- Seeding keeps all 64 bits of the seed in word 0 (41_mersenne_twister.md R134). -/
theorem word_mtSeed_zero (c : Config) (seed : Word) : (mtSeed c seed).word 0 = seed := rfl

/-- One iteration of the seeding pass (41_mersenne_twister.md R134). -/
theorem word_mtSeed_succ (c : Config) (seed : Word) {i : Nat} (h : i + 1 < nn) :
    (mtSeed c seed).word (i + 1) = seedWord c (i + 1) ((mtSeed c seed).word i) := by
  have := seedFrom_get c nn 0 i seed h
  rw [Nat.zero_add] at this
  simpa [MtVec.word, mtSeed, Nat.mod_eq_of_lt h, Nat.mod_eq_of_lt (show i < nn by omega)] using this

/-- The word iteration `i` writes, under the normative configuration. -/
theorem word_twistAt_unit (v : MtVec) (i : Nat) :
    (twistAt Config.unit v i).word i =
      twistWord Config.unit (v.word i) (v.word (i + 1)) (v.word (i + 156)) := by
  rw [word_twistAt_same, show Config.unit.nn = nn from rfl, MtVec.word_mod_nn, MtVec.word_mod_nn]
  rfl

/-- The cursor the extraction reads at is an index of the vector, whatever the cursor was. -/
theorem readyCursor_lt {c : Config} (hc : c.Fits) (k : BitVec 9) : (readyCursor c k).toNat < c.nn := by
  by_cases h : needsTwist c k = true
  · simpa [readyCursor, h] using hc.some_word
  · simp only [readyCursor, h]
    simpa [needsTwist] using h

/-- The cursor after a draw is one past the index read, without wrapping (41_mersenne_twister.md R142). -/
theorem toNat_mtNextCursor {c : Config} (hc : c.Fits) (k : BitVec 9) :
    (mtNextCursor c k).toNat = (readyCursor c k).toNat + 1 := by
  have h := readyCursor_lt hc k
  have hn := hc.words_fit
  simp only [mtNextCursor, BitVec.toNat_add]
  have : (1#9).toNat = 1 := rfl
  omega

/-- An extraction that needs no twist keeps the vector and reads at the cursor. -/
theorem ready_of_lt (c : Config) (v : MtVec) {k : BitVec 9} (h : k.toNat < c.nn) :
    readyVec c v k = v ∧ readyCursor c k = k := by
  have : needsTwist c k = false := by simpa [needsTwist] using h
  simp [readyVec, readyCursor, this]

/-- An extraction in NeedsTwist twists and reads word 0. -/
theorem ready_of_needsTwist (c : Config) (v : MtVec) {k : BitVec 9} (h : needsTwist c k = true) :
    readyVec c v k = twist c v ∧ readyCursor c k = 0#9 := by
  simp [readyVec, readyCursor, h]

end Machine

end Sys2Proof
end

