-- ==== Sys2Proof/Laws/State.lean ====
section
/-! SUPPORT. What each named update of Machine/Ops.lean leaves in each field of State. -/

namespace Sys2Proof.Machine

/-! ### holdMt -/

@[simp] theorem State.variant_holdMt (s : State) (v : MtVec) (k : BitVec 9) : (s.holdMt v k).variant = .mt := rfl
@[simp] theorem State.mtWord_holdMt (s : State) (v : MtVec) (k : BitVec 9) : (s.holdMt v k).mtWord = some v := rfl
@[simp] theorem State.mtCursor_holdMt (s : State) (v : MtVec) (k : BitVec 9) : (s.holdMt v k).mtCursor = some k := rfl
@[simp] theorem State.xsState_holdMt (s : State) (v : MtVec) (k : BitVec 9) : (s.holdMt v k).xsState = none := rfl
@[simp] theorem State.sides_holdMt (s : State) (v : MtVec) (k : BitVec 9) : (s.holdMt v k).sides = s.sides := rfl
@[simp] theorem State.dieValid_holdMt (s : State) (v : MtVec) (k : BitVec 9) : (s.holdMt v k).dieValid = s.dieValid := rfl
@[simp] theorem State.res_holdMt (s : State) (v : MtVec) (k : BitVec 9) : (s.holdMt v k).res = s.res := rfl
@[simp] theorem State.resValid_holdMt (s : State) (v : MtVec) (k : BitVec 9) : (s.holdMt v k).resValid = s.resValid := rfl
@[simp] theorem State.fault_holdMt (s : State) (v : MtVec) (k : BitVec 9) : (s.holdMt v k).fault = s.fault := rfl
@[simp] theorem State.cause_holdMt (s : State) (v : MtVec) (k : BitVec 9) : (s.holdMt v k).cause = s.cause := rfl
@[simp] theorem State.faultCmd_holdMt (s : State) (v : MtVec) (k : BitVec 9) : (s.holdMt v k).faultCmd = s.faultCmd := rfl
@[simp] theorem State.resetPin_holdMt (s : State) (v : MtVec) (k : BitVec 9) : (s.holdMt v k).resetPin = s.resetPin := rfl
@[simp] theorem State.ports_holdMt (s : State) (v : MtVec) (k : BitVec 9) : (s.holdMt v k).ports = s.ports := rfl
@[simp] theorem State.inbox_holdMt (s : State) (v : MtVec) (k : BitVec 9) : (s.holdMt v k).inbox = s.inbox := rfl
@[simp] theorem State.hostRead_holdMt (s : State) (v : MtVec) (k : BitVec 9) : (s.holdMt v k).hostRead = s.hostRead := rfl

/-! ### holdXs -/

@[simp] theorem State.variant_holdXs (s : State) (x : Word) : (s.holdXs x).variant = .xs := rfl
@[simp] theorem State.mtWord_holdXs (s : State) (x : Word) : (s.holdXs x).mtWord = none := rfl
@[simp] theorem State.mtCursor_holdXs (s : State) (x : Word) : (s.holdXs x).mtCursor = none := rfl
@[simp] theorem State.xsState_holdXs (s : State) (x : Word) : (s.holdXs x).xsState = some x := rfl
@[simp] theorem State.sides_holdXs (s : State) (x : Word) : (s.holdXs x).sides = s.sides := rfl
@[simp] theorem State.dieValid_holdXs (s : State) (x : Word) : (s.holdXs x).dieValid = s.dieValid := rfl
@[simp] theorem State.res_holdXs (s : State) (x : Word) : (s.holdXs x).res = s.res := rfl
@[simp] theorem State.resValid_holdXs (s : State) (x : Word) : (s.holdXs x).resValid = s.resValid := rfl
@[simp] theorem State.fault_holdXs (s : State) (x : Word) : (s.holdXs x).fault = s.fault := rfl
@[simp] theorem State.cause_holdXs (s : State) (x : Word) : (s.holdXs x).cause = s.cause := rfl
@[simp] theorem State.faultCmd_holdXs (s : State) (x : Word) : (s.holdXs x).faultCmd = s.faultCmd := rfl
@[simp] theorem State.resetPin_holdXs (s : State) (x : Word) : (s.holdXs x).resetPin = s.resetPin := rfl
@[simp] theorem State.ports_holdXs (s : State) (x : Word) : (s.holdXs x).ports = s.ports := rfl
@[simp] theorem State.inbox_holdXs (s : State) (x : Word) : (s.holdXs x).inbox = s.inbox := rfl
@[simp] theorem State.hostRead_holdXs (s : State) (x : Word) : (s.holdXs x).hostRead = s.hostRead := rfl

/-! ### writeMt -/

@[simp] theorem State.variant_writeMt (s : State) (v : MtVec) (k : BitVec 9) : (s.writeMt v k).variant = s.variant := rfl
@[simp] theorem State.mtWord_writeMt (s : State) (v : MtVec) (k : BitVec 9) : (s.writeMt v k).mtWord = some v := rfl
@[simp] theorem State.mtCursor_writeMt (s : State) (v : MtVec) (k : BitVec 9) : (s.writeMt v k).mtCursor = some k := rfl
@[simp] theorem State.xsState_writeMt (s : State) (v : MtVec) (k : BitVec 9) : (s.writeMt v k).xsState = s.xsState := rfl
@[simp] theorem State.sides_writeMt (s : State) (v : MtVec) (k : BitVec 9) : (s.writeMt v k).sides = s.sides := rfl
@[simp] theorem State.dieValid_writeMt (s : State) (v : MtVec) (k : BitVec 9) : (s.writeMt v k).dieValid = s.dieValid := rfl
@[simp] theorem State.res_writeMt (s : State) (v : MtVec) (k : BitVec 9) : (s.writeMt v k).res = s.res := rfl
@[simp] theorem State.resValid_writeMt (s : State) (v : MtVec) (k : BitVec 9) : (s.writeMt v k).resValid = s.resValid := rfl
@[simp] theorem State.fault_writeMt (s : State) (v : MtVec) (k : BitVec 9) : (s.writeMt v k).fault = s.fault := rfl
@[simp] theorem State.cause_writeMt (s : State) (v : MtVec) (k : BitVec 9) : (s.writeMt v k).cause = s.cause := rfl
@[simp] theorem State.faultCmd_writeMt (s : State) (v : MtVec) (k : BitVec 9) : (s.writeMt v k).faultCmd = s.faultCmd := rfl
@[simp] theorem State.resetPin_writeMt (s : State) (v : MtVec) (k : BitVec 9) : (s.writeMt v k).resetPin = s.resetPin := rfl
@[simp] theorem State.ports_writeMt (s : State) (v : MtVec) (k : BitVec 9) : (s.writeMt v k).ports = s.ports := rfl
@[simp] theorem State.inbox_writeMt (s : State) (v : MtVec) (k : BitVec 9) : (s.writeMt v k).inbox = s.inbox := rfl
@[simp] theorem State.hostRead_writeMt (s : State) (v : MtVec) (k : BitVec 9) : (s.writeMt v k).hostRead = s.hostRead := rfl

/-! ### writeXs -/

@[simp] theorem State.variant_writeXs (s : State) (x : Word) : (s.writeXs x).variant = s.variant := rfl
@[simp] theorem State.mtWord_writeXs (s : State) (x : Word) : (s.writeXs x).mtWord = s.mtWord := rfl
@[simp] theorem State.mtCursor_writeXs (s : State) (x : Word) : (s.writeXs x).mtCursor = s.mtCursor := rfl
@[simp] theorem State.xsState_writeXs (s : State) (x : Word) : (s.writeXs x).xsState = some x := rfl
@[simp] theorem State.sides_writeXs (s : State) (x : Word) : (s.writeXs x).sides = s.sides := rfl
@[simp] theorem State.dieValid_writeXs (s : State) (x : Word) : (s.writeXs x).dieValid = s.dieValid := rfl
@[simp] theorem State.res_writeXs (s : State) (x : Word) : (s.writeXs x).res = s.res := rfl
@[simp] theorem State.resValid_writeXs (s : State) (x : Word) : (s.writeXs x).resValid = s.resValid := rfl
@[simp] theorem State.fault_writeXs (s : State) (x : Word) : (s.writeXs x).fault = s.fault := rfl
@[simp] theorem State.cause_writeXs (s : State) (x : Word) : (s.writeXs x).cause = s.cause := rfl
@[simp] theorem State.faultCmd_writeXs (s : State) (x : Word) : (s.writeXs x).faultCmd = s.faultCmd := rfl
@[simp] theorem State.resetPin_writeXs (s : State) (x : Word) : (s.writeXs x).resetPin = s.resetPin := rfl
@[simp] theorem State.ports_writeXs (s : State) (x : Word) : (s.writeXs x).ports = s.ports := rfl
@[simp] theorem State.inbox_writeXs (s : State) (x : Word) : (s.writeXs x).inbox = s.inbox := rfl
@[simp] theorem State.hostRead_writeXs (s : State) (x : Word) : (s.writeXs x).hostRead = s.hostRead := rfl

/-! ### holdDie -/

@[simp] theorem State.variant_holdDie (s : State) (n : Word) : (s.holdDie n).variant = s.variant := rfl
@[simp] theorem State.mtWord_holdDie (s : State) (n : Word) : (s.holdDie n).mtWord = s.mtWord := rfl
@[simp] theorem State.mtCursor_holdDie (s : State) (n : Word) : (s.holdDie n).mtCursor = s.mtCursor := rfl
@[simp] theorem State.xsState_holdDie (s : State) (n : Word) : (s.holdDie n).xsState = s.xsState := rfl
@[simp] theorem State.sides_holdDie (s : State) (n : Word) : (s.holdDie n).sides = some n := rfl
@[simp] theorem State.dieValid_holdDie (s : State) (n : Word) : (s.holdDie n).dieValid = true := rfl
@[simp] theorem State.res_holdDie (s : State) (n : Word) : (s.holdDie n).res = s.res := rfl
@[simp] theorem State.resValid_holdDie (s : State) (n : Word) : (s.holdDie n).resValid = s.resValid := rfl
@[simp] theorem State.fault_holdDie (s : State) (n : Word) : (s.holdDie n).fault = s.fault := rfl
@[simp] theorem State.cause_holdDie (s : State) (n : Word) : (s.holdDie n).cause = s.cause := rfl
@[simp] theorem State.faultCmd_holdDie (s : State) (n : Word) : (s.holdDie n).faultCmd = s.faultCmd := rfl
@[simp] theorem State.resetPin_holdDie (s : State) (n : Word) : (s.holdDie n).resetPin = s.resetPin := rfl
@[simp] theorem State.ports_holdDie (s : State) (n : Word) : (s.holdDie n).ports = s.ports := rfl
@[simp] theorem State.inbox_holdDie (s : State) (n : Word) : (s.holdDie n).inbox = s.inbox := rfl
@[simp] theorem State.hostRead_holdDie (s : State) (n : Word) : (s.holdDie n).hostRead = s.hostRead := rfl

/-! ### dropDie -/

@[simp] theorem State.variant_dropDie (s : State) : (s.dropDie).variant = s.variant := rfl
@[simp] theorem State.mtWord_dropDie (s : State) : (s.dropDie).mtWord = s.mtWord := rfl
@[simp] theorem State.mtCursor_dropDie (s : State) : (s.dropDie).mtCursor = s.mtCursor := rfl
@[simp] theorem State.xsState_dropDie (s : State) : (s.dropDie).xsState = s.xsState := rfl
@[simp] theorem State.sides_dropDie (s : State) : (s.dropDie).sides = none := rfl
@[simp] theorem State.dieValid_dropDie (s : State) : (s.dropDie).dieValid = false := rfl
@[simp] theorem State.res_dropDie (s : State) : (s.dropDie).res = s.res := rfl
@[simp] theorem State.resValid_dropDie (s : State) : (s.dropDie).resValid = s.resValid := rfl
@[simp] theorem State.fault_dropDie (s : State) : (s.dropDie).fault = s.fault := rfl
@[simp] theorem State.cause_dropDie (s : State) : (s.dropDie).cause = s.cause := rfl
@[simp] theorem State.faultCmd_dropDie (s : State) : (s.dropDie).faultCmd = s.faultCmd := rfl
@[simp] theorem State.resetPin_dropDie (s : State) : (s.dropDie).resetPin = s.resetPin := rfl
@[simp] theorem State.ports_dropDie (s : State) : (s.dropDie).ports = s.ports := rfl
@[simp] theorem State.inbox_dropDie (s : State) : (s.dropDie).inbox = s.inbox := rfl
@[simp] theorem State.hostRead_dropDie (s : State) : (s.dropDie).hostRead = s.hostRead := rfl

/-! ### writeRes -/

@[simp] theorem State.variant_writeRes (s : State) (v : Word) : (s.writeRes v).variant = s.variant := rfl
@[simp] theorem State.mtWord_writeRes (s : State) (v : Word) : (s.writeRes v).mtWord = s.mtWord := rfl
@[simp] theorem State.mtCursor_writeRes (s : State) (v : Word) : (s.writeRes v).mtCursor = s.mtCursor := rfl
@[simp] theorem State.xsState_writeRes (s : State) (v : Word) : (s.writeRes v).xsState = s.xsState := rfl
@[simp] theorem State.sides_writeRes (s : State) (v : Word) : (s.writeRes v).sides = s.sides := rfl
@[simp] theorem State.dieValid_writeRes (s : State) (v : Word) : (s.writeRes v).dieValid = s.dieValid := rfl
@[simp] theorem State.res_writeRes (s : State) (v : Word) : (s.writeRes v).res = some v := rfl
@[simp] theorem State.resValid_writeRes (s : State) (v : Word) : (s.writeRes v).resValid = true := rfl
@[simp] theorem State.fault_writeRes (s : State) (v : Word) : (s.writeRes v).fault = s.fault := rfl
@[simp] theorem State.cause_writeRes (s : State) (v : Word) : (s.writeRes v).cause = s.cause := rfl
@[simp] theorem State.faultCmd_writeRes (s : State) (v : Word) : (s.writeRes v).faultCmd = s.faultCmd := rfl
@[simp] theorem State.resetPin_writeRes (s : State) (v : Word) : (s.writeRes v).resetPin = s.resetPin := rfl
@[simp] theorem State.ports_writeRes (s : State) (v : Word) : (s.writeRes v).ports = s.ports := rfl
@[simp] theorem State.inbox_writeRes (s : State) (v : Word) : (s.writeRes v).inbox = s.inbox := rfl
@[simp] theorem State.hostRead_writeRes (s : State) (v : Word) : (s.writeRes v).hostRead = s.hostRead := rfl

/-! ### raise -/

@[simp] theorem State.variant_raise (s : State) (c : Cause) : (s.raise c).variant = s.variant := rfl
@[simp] theorem State.mtWord_raise (s : State) (c : Cause) : (s.raise c).mtWord = s.mtWord := rfl
@[simp] theorem State.mtCursor_raise (s : State) (c : Cause) : (s.raise c).mtCursor = s.mtCursor := rfl
@[simp] theorem State.xsState_raise (s : State) (c : Cause) : (s.raise c).xsState = s.xsState := rfl
@[simp] theorem State.sides_raise (s : State) (c : Cause) : (s.raise c).sides = s.sides := rfl
@[simp] theorem State.dieValid_raise (s : State) (c : Cause) : (s.raise c).dieValid = s.dieValid := rfl
@[simp] theorem State.res_raise (s : State) (c : Cause) : (s.raise c).res = s.res := rfl
@[simp] theorem State.resValid_raise (s : State) (c : Cause) : (s.raise c).resValid = s.resValid := rfl
@[simp] theorem State.fault_raise (s : State) (c : Cause) : (s.raise c).fault = true := rfl
@[simp] theorem State.cause_raise (s : State) (c : Cause) : (s.raise c).cause = c.code := rfl
@[simp] theorem State.faultCmd_raise (s : State) (c : Cause) : (s.raise c).faultCmd = s.ports.cmd := rfl
@[simp] theorem State.resetPin_raise (s : State) (c : Cause) : (s.raise c).resetPin = s.resetPin := rfl
@[simp] theorem State.ports_raise (s : State) (c : Cause) : (s.raise c).ports = s.ports := rfl
@[simp] theorem State.inbox_raise (s : State) (c : Cause) : (s.raise c).inbox = s.inbox := rfl
@[simp] theorem State.hostRead_raise (s : State) (c : Cause) : (s.raise c).hostRead = s.hostRead := rfl

/-! ### resetUnit -/

@[simp] theorem State.variant_resetUnit (s : State) : (s.resetUnit).variant = .none := rfl
@[simp] theorem State.mtWord_resetUnit (s : State) : (s.resetUnit).mtWord = none := rfl
@[simp] theorem State.mtCursor_resetUnit (s : State) : (s.resetUnit).mtCursor = none := rfl
@[simp] theorem State.xsState_resetUnit (s : State) : (s.resetUnit).xsState = none := rfl
@[simp] theorem State.sides_resetUnit (s : State) : (s.resetUnit).sides = none := rfl
@[simp] theorem State.dieValid_resetUnit (s : State) : (s.resetUnit).dieValid = false := rfl
@[simp] theorem State.res_resetUnit (s : State) : (s.resetUnit).res = none := rfl
@[simp] theorem State.resValid_resetUnit (s : State) : (s.resetUnit).resValid = false := rfl
@[simp] theorem State.fault_resetUnit (s : State) : (s.resetUnit).fault = false := rfl
@[simp] theorem State.cause_resetUnit (s : State) : (s.resetUnit).cause = 0#4 := rfl
@[simp] theorem State.faultCmd_resetUnit (s : State) : (s.resetUnit).faultCmd = 0#32 := rfl
@[simp] theorem State.resetPin_resetUnit (s : State) : (s.resetUnit).resetPin = s.resetPin := rfl
@[simp] theorem State.ports_resetUnit (s : State) : (s.resetUnit).ports = Ports.idle := rfl
@[simp] theorem State.inbox_resetUnit (s : State) : (s.resetUnit).inbox = s.inbox := rfl
@[simp] theorem State.hostRead_resetUnit (s : State) : (s.resetUnit).hostRead = s.hostRead := rfl

/-! ### driveReset -/

@[simp] theorem State.variant_driveReset (s : State) (b : Bool) : (s.driveReset b).variant = s.variant := rfl
@[simp] theorem State.mtWord_driveReset (s : State) (b : Bool) : (s.driveReset b).mtWord = s.mtWord := rfl
@[simp] theorem State.mtCursor_driveReset (s : State) (b : Bool) : (s.driveReset b).mtCursor = s.mtCursor := rfl
@[simp] theorem State.xsState_driveReset (s : State) (b : Bool) : (s.driveReset b).xsState = s.xsState := rfl
@[simp] theorem State.sides_driveReset (s : State) (b : Bool) : (s.driveReset b).sides = s.sides := rfl
@[simp] theorem State.dieValid_driveReset (s : State) (b : Bool) : (s.driveReset b).dieValid = s.dieValid := rfl
@[simp] theorem State.res_driveReset (s : State) (b : Bool) : (s.driveReset b).res = s.res := rfl
@[simp] theorem State.resValid_driveReset (s : State) (b : Bool) : (s.driveReset b).resValid = s.resValid := rfl
@[simp] theorem State.fault_driveReset (s : State) (b : Bool) : (s.driveReset b).fault = s.fault := rfl
@[simp] theorem State.cause_driveReset (s : State) (b : Bool) : (s.driveReset b).cause = s.cause := rfl
@[simp] theorem State.faultCmd_driveReset (s : State) (b : Bool) : (s.driveReset b).faultCmd = s.faultCmd := rfl
@[simp] theorem State.resetPin_driveReset (s : State) (b : Bool) : (s.driveReset b).resetPin = b := rfl
@[simp] theorem State.ports_driveReset (s : State) (b : Bool) : (s.driveReset b).ports = s.ports := rfl
@[simp] theorem State.inbox_driveReset (s : State) (b : Bool) : (s.driveReset b).inbox = s.inbox := rfl
@[simp] theorem State.hostRead_driveReset (s : State) (b : Bool) : (s.driveReset b).hostRead = s.hostRead := rfl

/-! ### accept -/

@[simp] theorem State.variant_accept (s : State) (p : Ports) : (s.accept p).variant = s.variant := rfl
@[simp] theorem State.mtWord_accept (s : State) (p : Ports) : (s.accept p).mtWord = s.mtWord := rfl
@[simp] theorem State.mtCursor_accept (s : State) (p : Ports) : (s.accept p).mtCursor = s.mtCursor := rfl
@[simp] theorem State.xsState_accept (s : State) (p : Ports) : (s.accept p).xsState = s.xsState := rfl
@[simp] theorem State.sides_accept (s : State) (p : Ports) : (s.accept p).sides = s.sides := rfl
@[simp] theorem State.dieValid_accept (s : State) (p : Ports) : (s.accept p).dieValid = s.dieValid := rfl
@[simp] theorem State.res_accept (s : State) (p : Ports) : (s.accept p).res = s.res := rfl
@[simp] theorem State.resValid_accept (s : State) (p : Ports) : (s.accept p).resValid = s.resValid := rfl
@[simp] theorem State.fault_accept (s : State) (p : Ports) : (s.accept p).fault = s.fault := rfl
@[simp] theorem State.cause_accept (s : State) (p : Ports) : (s.accept p).cause = s.cause := rfl
@[simp] theorem State.faultCmd_accept (s : State) (p : Ports) : (s.accept p).faultCmd = s.faultCmd := rfl
@[simp] theorem State.resetPin_accept (s : State) (p : Ports) : (s.accept p).resetPin = s.resetPin := rfl
@[simp] theorem State.ports_accept (s : State) (p : Ports) : (s.accept p).ports = p := rfl
@[simp] theorem State.inbox_accept (s : State) (p : Ports) : (s.accept p).inbox = s.inbox := rfl
@[simp] theorem State.hostRead_accept (s : State) (p : Ports) : (s.accept p).hostRead = s.hostRead := rfl

/-! ### release -/

@[simp] theorem State.variant_release (s : State) : (s.release).variant = s.variant := rfl
@[simp] theorem State.mtWord_release (s : State) : (s.release).mtWord = s.mtWord := rfl
@[simp] theorem State.mtCursor_release (s : State) : (s.release).mtCursor = s.mtCursor := rfl
@[simp] theorem State.xsState_release (s : State) : (s.release).xsState = s.xsState := rfl
@[simp] theorem State.sides_release (s : State) : (s.release).sides = s.sides := rfl
@[simp] theorem State.dieValid_release (s : State) : (s.release).dieValid = s.dieValid := rfl
@[simp] theorem State.res_release (s : State) : (s.release).res = s.res := rfl
@[simp] theorem State.resValid_release (s : State) : (s.release).resValid = s.resValid := rfl
@[simp] theorem State.fault_release (s : State) : (s.release).fault = s.fault := rfl
@[simp] theorem State.cause_release (s : State) : (s.release).cause = s.cause := rfl
@[simp] theorem State.faultCmd_release (s : State) : (s.release).faultCmd = s.faultCmd := rfl
@[simp] theorem State.resetPin_release (s : State) : (s.release).resetPin = s.resetPin := rfl
@[simp] theorem State.ports_release (s : State) : (s.release).ports = Ports.idle := rfl
@[simp] theorem State.inbox_release (s : State) : (s.release).inbox = s.inbox := rfl
@[simp] theorem State.hostRead_release (s : State) : (s.release).hostRead = s.hostRead := rfl

/-! ### setInbox -/

@[simp] theorem State.variant_setInbox (s : State) (l : List HostMove) : (s.setInbox l).variant = s.variant := rfl
@[simp] theorem State.mtWord_setInbox (s : State) (l : List HostMove) : (s.setInbox l).mtWord = s.mtWord := rfl
@[simp] theorem State.mtCursor_setInbox (s : State) (l : List HostMove) : (s.setInbox l).mtCursor = s.mtCursor := rfl
@[simp] theorem State.xsState_setInbox (s : State) (l : List HostMove) : (s.setInbox l).xsState = s.xsState := rfl
@[simp] theorem State.sides_setInbox (s : State) (l : List HostMove) : (s.setInbox l).sides = s.sides := rfl
@[simp] theorem State.dieValid_setInbox (s : State) (l : List HostMove) : (s.setInbox l).dieValid = s.dieValid := rfl
@[simp] theorem State.res_setInbox (s : State) (l : List HostMove) : (s.setInbox l).res = s.res := rfl
@[simp] theorem State.resValid_setInbox (s : State) (l : List HostMove) : (s.setInbox l).resValid = s.resValid := rfl
@[simp] theorem State.fault_setInbox (s : State) (l : List HostMove) : (s.setInbox l).fault = s.fault := rfl
@[simp] theorem State.cause_setInbox (s : State) (l : List HostMove) : (s.setInbox l).cause = s.cause := rfl
@[simp] theorem State.faultCmd_setInbox (s : State) (l : List HostMove) : (s.setInbox l).faultCmd = s.faultCmd := rfl
@[simp] theorem State.resetPin_setInbox (s : State) (l : List HostMove) : (s.setInbox l).resetPin = s.resetPin := rfl
@[simp] theorem State.ports_setInbox (s : State) (l : List HostMove) : (s.setInbox l).ports = s.ports := rfl
@[simp] theorem State.inbox_setInbox (s : State) (l : List HostMove) : (s.setInbox l).inbox = l := rfl
@[simp] theorem State.hostRead_setInbox (s : State) (l : List HostMove) : (s.setInbox l).hostRead = s.hostRead := rfl

/-! ### reply -/

@[simp] theorem State.variant_reply (s : State) (r : HostReply) : (s.reply r).variant = s.variant := rfl
@[simp] theorem State.mtWord_reply (s : State) (r : HostReply) : (s.reply r).mtWord = s.mtWord := rfl
@[simp] theorem State.mtCursor_reply (s : State) (r : HostReply) : (s.reply r).mtCursor = s.mtCursor := rfl
@[simp] theorem State.xsState_reply (s : State) (r : HostReply) : (s.reply r).xsState = s.xsState := rfl
@[simp] theorem State.sides_reply (s : State) (r : HostReply) : (s.reply r).sides = s.sides := rfl
@[simp] theorem State.dieValid_reply (s : State) (r : HostReply) : (s.reply r).dieValid = s.dieValid := rfl
@[simp] theorem State.res_reply (s : State) (r : HostReply) : (s.reply r).res = s.res := rfl
@[simp] theorem State.resValid_reply (s : State) (r : HostReply) : (s.reply r).resValid = s.resValid := rfl
@[simp] theorem State.fault_reply (s : State) (r : HostReply) : (s.reply r).fault = s.fault := rfl
@[simp] theorem State.cause_reply (s : State) (r : HostReply) : (s.reply r).cause = s.cause := rfl
@[simp] theorem State.faultCmd_reply (s : State) (r : HostReply) : (s.reply r).faultCmd = s.faultCmd := rfl
@[simp] theorem State.resetPin_reply (s : State) (r : HostReply) : (s.reply r).resetPin = s.resetPin := rfl
@[simp] theorem State.ports_reply (s : State) (r : HostReply) : (s.reply r).ports = s.ports := rfl
@[simp] theorem State.inbox_reply (s : State) (r : HostReply) : (s.reply r).inbox = s.inbox := rfl
@[simp] theorem State.hostRead_reply (s : State) (r : HostReply) : (s.reply r).hostRead = some r := rfl

end Sys2Proof.Machine
end

