-- ==== Sys2Proof/Laws/Ops.lean ====
section
/-! SUPPORT. What each shared operation can do, once: seeding, drawing, returning a draw, and the four
command shapes over them. -/

namespace Sys2Proof.Machine

/-- Seeding writes the generator's registers and nothing else. -/
theorem seedGenerator_frame (c : Config) (e : Engine) (seed : Word) (s : State) :
    s.seedGenerator c e seed = { s with
      variant := (s.seedGenerator c e seed).variant
      mtWord := (s.seedGenerator c e seed).mtWord
      mtCursor := (s.seedGenerator c e seed).mtCursor
      xsState := (s.seedGenerator c e seed).xsState } := by
  cases e <;> rfl

/-- Seeding overwrites the whole generator: what it leaves there does not depend on the state before. -/
theorem seedGenerator_fresh (c : Config) (e : Engine) (seed : Word) (s t : State) :
    (s.seedGenerator c e seed).variant = (t.seedGenerator c e seed).variant ∧
    (s.seedGenerator c e seed).mtWord = (t.seedGenerator c e seed).mtWord ∧
    (s.seedGenerator c e seed).mtCursor = (t.seedGenerator c e seed).mtCursor ∧
    (s.seedGenerator c e seed).xsState = (t.seedGenerator c e seed).xsState := by
  cases e <;> exact ⟨rfl, rfl, rfl, rfl⟩

/-- A draw that answers comes from one of the two engines, and rewrites that engine's state only. -/
theorem draw_cases {c : Config} {s t : State} {r : Word} (h : draw c s = .ok (r, t)) :
    (∃ v k, s.variant = .mt ∧ s.mtWord = some v ∧ s.mtCursor = some k ∧
      r = mtNextValue c v k ∧ t = s.writeMt (readyVec c v k) (mtNextCursor c k)) ∨
    (∃ x, s.variant = .xs ∧ s.xsState = some x ∧ r = xsNextValue c x ∧ t = s.writeXs (xsStep c x)) := by
  unfold draw at h
  split at h
  · cases h
  · rename_i hv
    split at h
    · rename_i v k hw hk
      cases h
      exact .inl ⟨v, k, hv, hw, hk, rfl, rfl⟩
    · cases h
  · rename_i hv
    split at h
    · rename_i x hx
      cases h
      exact .inr ⟨x, hv, hx, rfl, rfl⟩
    · cases h

/-- A draw from a Mersenne Twister. -/
theorem draw_mt (c : Config) {s : State} {v : MtVec} {k : BitVec 9} (hv : s.variant = .mt)
    (hw : s.mtWord = some v) (hk : s.mtCursor = some k) :
    draw c s = .ok (mtNextValue c v k, s.writeMt (readyVec c v k) (mtNextCursor c k)) := by
  simp [draw, hv, hw, hk]

/-- A draw from an Xorshift* generator. -/
theorem draw_xs (c : Config) {s : State} {x : Word} (hv : s.variant = .xs) (hx : s.xsState = some x) :
    draw c s = .ok (xsNextValue c x, s.writeXs (xsStep c x)) := by
  simp [draw, hv, hx]

/-- Returning a draw that answers: `RES` holds `f` of it, and the engine has moved. -/
theorem returnDraw_ok {c : Config} {s t : State} {r : Word} (f : Word → Word)
    (h : draw c s = .ok (r, t)) : returnDraw c f s = .next (t.writeRes (f r)) := by
  simp [returnDraw, h]

/-- Everything a returned draw can do. -/
theorem returnDraw_cases {c : Config} {f : Word → Word} {s u : State}
    (h : returnDraw c f s = .next u) : ∃ r t, draw c s = .ok (r, t) ∧ u = t.writeRes (f r) := by
  unfold returnDraw at h
  split at h
  · rename_i r t hd
    cases h
    exact ⟨r, t, hd, rfl⟩
  · cases h

/-- Everything CONSTRUCT can do (40_capability.md R102): it always answers a next state. -/
theorem constructOp_cases (c : Config) (e : Engine) (s : State) :
    (s.ports.seedValid = true ∧
      constructOp c e s = .next (s.seedGenerator c e s.ports.seed).dropDie) ∨
    (s.ports.seedValid = false ∧ constructOp c e s = .next (s.raise .clockError)) := by
  unfold constructOp State.capturedSeed
  cases h : s.ports.seedValid <;> simp [trap]

/-- Everything DIE and DIE.Dn can do (43_die.md R192, R193): they always answer a next state. -/
theorem dieOp_cases (c : Config) (e : Engine) (n : Word) (s : State) :
    (s.ports.seedValid = true ∧
      dieOp c e n s = .next ((s.seedGenerator c e s.ports.seed).holdDie n)) ∨
    (s.ports.seedValid = false ∧ dieOp c e n s = .next (s.raise .clockError)) := by
  unfold dieOp State.capturedSeed
  cases h : s.ports.seedValid <;> simp [trap]

/-- Everything NEXT can do (40_capability.md R103). -/
theorem nextOp_cases (c : Config) (s : State) :
    (s.variant = .none ∧ nextOp c s = .next (s.raise .notConstructed)) ∨
    (s.variant ≠ .none ∧ nextOp c s = returnDraw c id s) := by
  unfold nextOp
  by_cases h : s.variant = .none <;> simp [h, trap]

/-- Everything NEXTB can do (40_capability.md R105), in the order of its checks. -/
theorem nextbOp_cases (c : Config) (s : State) :
    (s.variant = .none ∧ nextbOp c s = .next (s.raise .notConstructed)) ∨
    (s.variant ≠ .none ∧ s.ports.opb < s.ports.opa ∧
      nextbOp c s = .next (s.raise .rangeInverted)) ∨
    (s.variant ≠ .none ∧ s.ports.opb = s.ports.opa ∧
      nextbOp c s = .next (s.raise .arithmeticError)) ∨
    (s.variant ≠ .none ∧ s.ports.opa < s.ports.opb ∧
      nextbOp c s = returnDraw c (bounded s.ports.opa s.ports.opb) s) := by
  unfold nextbOp State.nextbMin State.nextbMax
  by_cases h : s.variant = .none
  · simp [h, trap]
  · by_cases h1 : s.ports.opb < s.ports.opa
    · simp [h, h1, trap]
    · by_cases h2 : s.ports.opb = s.ports.opa
      · simp [h, h2, trap]
      · have h3 : s.ports.opa < s.ports.opb := by bv_omega
        simp [h, h1, h2, h3]

/-- Everything NEXTB0 can do (40_capability.md R107). -/
theorem nextb0Op_cases (c : Config) (s : State) :
    (s.variant = .none ∧ nextb0Op c s = .next (s.raise .notConstructed)) ∨
    (s.variant ≠ .none ∧ s.ports.opa = 0#64 ∧
      nextb0Op c s = .next (s.raise .arithmeticError)) ∨
    (s.variant ≠ .none ∧ s.ports.opa ≠ 0#64 ∧
      nextb0Op c s = returnDraw c (bounded 0#64 s.ports.opa) s) := by
  unfold nextb0Op State.nextb0Max
  by_cases h : s.variant = .none
  · simp [h, trap]
  · by_cases h1 : s.ports.opa = 0#64 <;> simp [h, h1, trap]

/-- Everything ROLL can do (43_die.md R194), in the order of its checks; the last case is a state no run
reaches. -/
theorem rollOp_cases (c : Config) (s : State) :
    (s.variant = .none ∧ rollOp c s = .next (s.raise .notConstructed)) ∨
    (s.variant ≠ .none ∧ s.dieValid = false ∧ rollOp c s = .next (s.raise .noDie)) ∨
    (s.variant ≠ .none ∧ s.dieValid = true ∧ s.sides = some 0xFFFFFFFFFFFFFFFF#64 ∧
      rollOp c s = .next (s.raise .sidesOverflow)) ∨
    (s.variant ≠ .none ∧ s.dieValid = true ∧ s.sides = some 0#64 ∧
      rollOp c s = .next (s.raise .arithmeticError)) ∨
    (∃ n, s.variant ≠ .none ∧ s.dieValid = true ∧ s.sides = some n ∧
      n ≠ 0xFFFFFFFFFFFFFFFF#64 ∧ n ≠ 0#64 ∧
      rollOp c s = returnDraw c (bounded 1#64 (n + 1#64)) s) ∨
    (s.variant ≠ .none ∧ s.dieValid = true ∧ s.sides = none ∧
      rollOp c s = .fault .sidesHoldsNoValue) := by
  unfold rollOp
  by_cases h : s.variant = .none
  · simp [h, trap]
  · by_cases hd : s.dieValid = false
    · simp [h, hd, trap]
    · rw [Bool.not_eq_false] at hd
      cases hs : s.sides with
      | none => simp [h, hd]
      | some n =>
        by_cases h1 : n = 0xFFFFFFFFFFFFFFFF#64
        · simp [h, hd, h1, rollSides, trap]
        · by_cases h2 : n = 0#64
          · simp [h, hd, h2, rollSides, trap]
          · have h3 : n + 1#64 ≠ 1#64 := by
              intro h3
              apply h2
              bv_omega
            simp [h, hd, h1, h2, h3, rollSides]

/-- The bounded-range mapping on numbers, for `min < max` (40_capability.md R106): nothing wraps. -/
theorem toNat_bounded {min max : Word} (h : min < max) (r : Word) :
    (bounded min max r).toNat = min.toNat + r.toNat % (max.toNat - min.toNat) := by
  have hlt : min.toNat < max.toNat := h
  have hmax : max.toNat < 2 ^ 64 := max.isLt
  have hsub : (max - min).toNat = max.toNat - min.toNat := by
    rw [BitVec.toNat_sub_of_le (BitVec.le_def.mpr (by omega))]
  have hmod : r.toNat % (max.toNat - min.toNat) < max.toNat - min.toNat :=
    Nat.mod_lt _ (by omega)
  rw [bounded, BitVec.toNat_add, BitVec.toNat_umod, hsub, Nat.mod_eq_of_lt (by omega)]

end Sys2Proof.Machine
end

