-- ==== Sys2Proof/Laws/Step.lean ====
section
/-! SUPPORT. What a step can do, once: each move of the host, and a command accepted by a unit that is
not halted. -/

namespace Sys2Proof.Machine

/-- The outcome of a mapped result, seen from its next state. -/
theorem mapNext_eq_next {f : State → State} {o : Result} {u : State} (h : mapNext f o = .next u) :
    ∃ t, o = .next t ∧ u = f t := by
  cases o with
  | next t =>
    cases h
    exact ⟨t, rfl, rfl⟩
  | fault e => cases h
  | refused r => cases h

/-- Reset reached twice is reset. -/
@[simp] theorem resetUnit_resetUnit (s : State) : s.resetUnit.resetUnit = s.resetUnit := rfl

/-- With `RESET` low nothing is held. -/
theorem holdInReset_low {s : State} (h : s.resetPin = false) : s.holdInReset = s := by
  simp [State.holdInReset, h]

/-- With `RESET` high every register has its reset value. -/
theorem holdInReset_high {s : State} (h : s.resetPin = true) : s.holdInReset = s.resetUnit := by
  simp [State.holdInReset, h]

/-- A halted unit completes a command with no effect (60_exceptions.md R223), whatever commands mean. -/
theorem runCommandWith_halted (ex : Instr → State → Result) (p : Ports) {s : State}
    (h : s.fault = true) : runCommandWith ex p s = .next s := by
  simp [runCommandWith, h]

/-- A word that decodes runs its meaning on the sampled ports. -/
theorem runCommandWith_legal (ex : Instr → State → Result) (p : Ports) {s : State} {i : Instr}
    (h : s.fault = false) (hd : decode p.cmd = .ok i) :
    runCommandWith ex p s = mapNext State.release (ex i (s.accept p)) := by
  simp [runCommandWith, h, hd]

/-- A word that does not decode raises `IllegalCommand` (30_encoding.md R80). -/
theorem runCommandWith_illegal (ex : Instr → State → Result) (p : Ports) {s : State} {e : IllegalWord}
    (h : s.fault = false) (hd : decode p.cmd = .error e) :
    runCommandWith ex p s = .next ((s.accept p).raise .illegalCommand).release := by
  simp [runCommandWith, h, hd, trap, mapNext]

/-- The step of any move: the move accepted by the unit, held in reset if `RESET` is high. -/
theorem stepWith_move (ex : Instr → State → Result) {s : State} {m : HostMove} {rest : List HostMove}
    (h : s.inbox = m :: rest) : stepWith ex s = acceptMoveWith ex m (s.setInbox rest).holdInReset := by
  simp [stepWith, h]

/-- The step with no move pending. -/
theorem stepWith_wait (ex : Instr → State → Result) {s : State} (h : s.inbox = []) :
    stepWith ex s = .next s.holdInReset := by
  simp [stepWith, h]

/-- A halted unit completes a command with no effect. -/
theorem runCommand_halted (p : Ports) {s : State} (h : s.fault = true) : runCommand p s = .next s :=
  runCommandWith_halted exec p h

/-- A word that decodes runs its instruction on the sampled ports. -/
theorem runCommand_legal (p : Ports) {s : State} {i : Instr} (h : s.fault = false)
    (hd : decode p.cmd = .ok i) : runCommand p s = mapNext State.release (exec i (s.accept p)) :=
  runCommandWith_legal exec p h hd

/-- A word that does not decode raises `IllegalCommand`. -/
theorem runCommand_illegal (p : Ports) {s : State} {e : IllegalWord} (h : s.fault = false)
    (hd : decode p.cmd = .error e) :
    runCommand p s = .next ((s.accept p).raise .illegalCommand).release :=
  runCommandWith_illegal exec p h hd

/-- The step of any move. -/
theorem step_move {s : State} {m : HostMove} {rest : List HostMove} (h : s.inbox = m :: rest) :
    step s = acceptMove m (s.setInbox rest).holdInReset :=
  stepWith_move exec h

/-- The step with no move pending. -/
theorem step_wait {s : State} (h : s.inbox = []) : step s = .next s.holdInReset := stepWith_wait exec h

/-- The step of a command move with `RESET` low. -/
theorem step_issue {s : State} {p : Ports} {rest : List HostMove} (h : s.inbox = .issue p :: rest)
    (hr : s.resetPin = false) : step s = runCommand p (s.setInbox rest) := by
  simp [step_move h, acceptMove, acceptMoveWith, runCommand, State.holdInReset, hr]

/-- This unit's meanings are those under `Config.unit`. -/
theorem exec_eq_execUnder (i : Instr) (s : State) : exec i s = execUnder Config.unit i s := by
  cases i <;> rfl

/-- The machine's step is the step relation under `Config.unit` (00_scope.md R3). -/
theorem step_eq_stepUnder (s : State) : step s = stepUnder Config.unit s := by
  have h : exec = execUnder Config.unit := funext fun i => funext fun s => exec_eq_execUnder i s
  rw [step, stepUnit, stepUnder, h]

end Sys2Proof.Machine
end

