-- ==== Sys2Proof/Laws/Exec.lean ====
section
/-! SUPPORT. What executing any command can do, once: raise a fault, build a generator with or without a
die, or return one draw; when a draw answers; and a run one step at a time. -/

namespace Sys2Proof.Machine

/-- CONSTRUCT, whichever the variant: a fault entry or a bare generator. -/
theorem constructOp_next (c : Config) (e : Engine) (s : State) :
    (∃ f, constructOp c e s = .next (s.raise f)) ∨
    (∃ seed, constructOp c e s = .next (s.seedGenerator c e seed).dropDie) := by
  rcases constructOp_cases c e s with ⟨_, h⟩ | ⟨_, h⟩
  · exact .inr ⟨_, h⟩
  · exact .inl ⟨_, h⟩

/-- DIE and DIE.Dn, whichever the variant and the sides: a fault entry or a die. -/
theorem dieOp_next (c : Config) (e : Engine) (n : Word) (s : State) :
    (∃ f, dieOp c e n s = .next (s.raise f)) ∨
    (∃ seed, dieOp c e n s = .next ((s.seedGenerator c e seed).holdDie n)) := by
  rcases dieOp_cases c e n s with ⟨_, h⟩ | ⟨_, h⟩
  · exact .inr ⟨_, h⟩
  · exact .inl ⟨_, h⟩

/-- Everything a command can do under a configuration. The last case is a state no run reaches. -/
theorem execUnder_cases (c : Config) (i : Instr) (s : State) :
    (∃ f, execUnder c i s = .next (s.raise f)) ∨
    (∃ e seed, i.format.readsSeed = true ∧
      (execUnder c i s = .next (s.seedGenerator c e seed).dropDie ∨
        ∃ n, execUnder c i s = .next ((s.seedGenerator c e seed).holdDie n))) ∨
    (∃ f, i.draws = true ∧ s.variant ≠ .none ∧ execUnder c i s = returnDraw c f s) ∨
    (i = .roll ∧ s.dieValid = true ∧ s.sides = none ∧ execUnder c i s = .fault .sidesHoldsNoValue) := by
  cases i
  case next =>
    rcases nextOp_cases c s with ⟨_, h⟩ | ⟨hv, h⟩
    · exact .inl ⟨_, h⟩
    · exact .inr (.inr (.inl ⟨_, rfl, hv, h⟩))
  case nextb =>
    rcases nextbOp_cases c s with ⟨_, h⟩ | ⟨_, _, h⟩ | ⟨_, _, h⟩ | ⟨hv, _, h⟩
    · exact .inl ⟨_, h⟩
    · exact .inl ⟨_, h⟩
    · exact .inl ⟨_, h⟩
    · exact .inr (.inr (.inl ⟨_, rfl, hv, h⟩))
  case nextb0 =>
    rcases nextb0Op_cases c s with ⟨_, h⟩ | ⟨_, _, h⟩ | ⟨hv, _, h⟩
    · exact .inl ⟨_, h⟩
    · exact .inl ⟨_, h⟩
    · exact .inr (.inr (.inl ⟨_, rfl, hv, h⟩))
  case roll =>
    rcases rollOp_cases c s with ⟨_, h⟩ | ⟨_, _, h⟩ | ⟨_, _, _, h⟩ | ⟨_, _, _, h⟩ |
      ⟨_, hv, _, _, _, _, h⟩ | ⟨_, hd, hs, h⟩
    · exact .inl ⟨_, h⟩
    · exact .inl ⟨_, h⟩
    · exact .inl ⟨_, h⟩
    · exact .inl ⟨_, h⟩
    · exact .inr (.inr (.inl ⟨_, rfl, hv, h⟩))
    · exact .inr (.inr (.inr ⟨rfl, hd, hs, h⟩))
  case constructMt =>
    rcases constructOp_next c .mt s with ⟨_, h⟩ | ⟨_, h⟩
    · exact .inl ⟨_, h⟩
    · exact .inr (.inl ⟨_, _, rfl, .inl h⟩)
  case constructXs =>
    rcases constructOp_next c .xs s with ⟨_, h⟩ | ⟨_, h⟩
    · exact .inl ⟨_, h⟩
    · exact .inr (.inl ⟨_, _, rfl, .inl h⟩)
  all_goals
    first
    | (rcases dieOp_next c .mt _ s with ⟨_, h⟩ | ⟨_, h⟩
       · exact .inl ⟨_, h⟩
       · exact .inr (.inl ⟨_, _, rfl, .inr ⟨_, h⟩⟩))
    | (rcases dieOp_next c .xs _ s with ⟨_, h⟩ | ⟨_, h⟩
       · exact .inl ⟨_, h⟩
       · exact .inr (.inl ⟨_, _, rfl, .inr ⟨_, h⟩⟩))

/-- Everything the execution of a command can do on this unit. -/
theorem exec_cases (i : Instr) (s : State) :
    (∃ f, exec i s = .next (s.raise f)) ∨
    (∃ e seed, i.format.readsSeed = true ∧
      (exec i s = .next (s.seedGenerator Config.unit e seed).dropDie ∨
        ∃ n, exec i s = .next ((s.seedGenerator Config.unit e seed).holdDie n))) ∨
    (∃ f, i.draws = true ∧ s.variant ≠ .none ∧ exec i s = returnDraw Config.unit f s) ∨
    (i = .roll ∧ s.dieValid = true ∧ s.sides = none ∧ exec i s = .fault .sidesHoldsNoValue) := by
  simp only [exec_eq_execUnder]
  exact execUnder_cases Config.unit i s

/-- Seeding leaves a generator that holds exactly its own variant's state. -/
theorem generatorHeld_seedGenerator {c : Config} (hc : c.Fits) (e : Engine) (seed : Word) (s : State) :
    (s.seedGenerator c e seed).GeneratorHeld ∧ (s.seedGenerator c e seed).variant ≠ .none := by
  have hn : c.nn ≤ 312 := hc.words_fit
  cases e
  · refine ⟨⟨⟨_, _, rfl, rfl, ?_⟩, rfl⟩, by simp [State.seedGenerator]⟩
    rw [cursorAfterSeed, BitVec.toNat_ofNat]
    exact (Nat.mod_le _ _).trans hn
  · exact ⟨⟨rfl, rfl, _, rfl⟩, by simp [State.seedGenerator]⟩

/-- A generator that holds its own variant's state can be drawn from. -/
theorem draw_answers (c : Config) {s : State} (hg : s.GeneratorHeld) (hv : s.variant ≠ .none) :
    ∃ r t, draw c s = .ok (r, t) := by
  cases h : s.variant
  · exact absurd h hv
  · simp only [State.GeneratorHeld, h] at hg
    obtain ⟨⟨v, k, hw, hk, _⟩, _⟩ := hg
    exact ⟨_, _, draw_mt c h hw hk⟩
  · simp only [State.GeneratorHeld, h] at hg
    obtain ⟨_, _, x, hx⟩ := hg
    exact ⟨_, _, draw_xs c h hx⟩

/-- A draw keeps the generator's own state held, and the cursor in its range. -/
theorem generatorHeld_draw {c : Config} (hc : c.Fits) {s t : State} {r : Word} (hg : s.GeneratorHeld)
    (h : draw c s = .ok (r, t)) : t.GeneratorHeld := by
  rcases draw_cases h with ⟨v, k, hv, _, _, _, rfl⟩ | ⟨x, hv, _, _, rfl⟩
  · simp only [State.GeneratorHeld, hv] at hg
    have hk : (mtNextCursor c k).toNat ≤ nn := by
      rw [toNat_mtNextCursor hc]
      exact Nat.le_trans (readyCursor_lt hc k) hc.words_fit
    simpa [State.GeneratorHeld, hv, hk] using hg.2
  · simp only [State.GeneratorHeld, hv] at hg
    simpa [State.GeneratorHeld, hv] using ⟨hg.1, hg.2.1⟩

/-- A run of one more step, after a step that answers. -/
theorem core_run_succ_next (n : Nat) {s t : State} (h : step s = .next t) :
    Sys2Proof.core.run (n + 1) s = Sys2Proof.core.run n t := by
  simp only [Host.Core.run, show Sys2Proof.core.step s = .next t from h]

/-- A run ends at a step that faults. -/
theorem core_run_succ_fault (n : Nat) {s : State} {e : Fault} (h : step s = .fault e) :
    Sys2Proof.core.run (n + 1) s = .fault e := by
  simp only [Host.Core.run, show Sys2Proof.core.step s = .fault e from h]

end Sys2Proof.Machine
end

