-- ==== Sys2Proof/Laws/PerInstr.lean ====
section
/-! SUPPORT. Per instruction: its encoding has the fields of its row of the table of legal words
(30_encoding.md R87), and they are well-formed (R80). -/

namespace Sys2Proof.Laws.Encoding

/-- The word of `i` holds the fields of `i`, each in its place, and they make a legal command. -/
def Statement (i : Instr) : Prop := fieldsOf (encode i) = encodeFields i ∧ i.wellFormed = true

theorem constructMt : Statement .constructMt := ⟨by decide, by decide⟩
theorem constructXs : Statement .constructXs := ⟨by decide, by decide⟩
theorem next : Statement .next := ⟨by decide, by decide⟩
theorem nextb : Statement .nextb := ⟨by decide, by decide⟩
theorem nextb0 : Statement .nextb0 := ⟨by decide, by decide⟩
theorem dieMt : Statement .dieMt := ⟨by decide, by decide⟩
theorem dieXs : Statement .dieXs := ⟨by decide, by decide⟩
theorem dieMtD4 : Statement .dieMtD4 := ⟨by decide, by decide⟩
theorem dieMtD6 : Statement .dieMtD6 := ⟨by decide, by decide⟩
theorem dieMtD8 : Statement .dieMtD8 := ⟨by decide, by decide⟩
theorem dieMtD10 : Statement .dieMtD10 := ⟨by decide, by decide⟩
theorem dieMtD12 : Statement .dieMtD12 := ⟨by decide, by decide⟩
theorem dieMtD20 : Statement .dieMtD20 := ⟨by decide, by decide⟩
theorem dieMtD100 : Statement .dieMtD100 := ⟨by decide, by decide⟩
theorem dieXsD4 : Statement .dieXsD4 := ⟨by decide, by decide⟩
theorem dieXsD6 : Statement .dieXsD6 := ⟨by decide, by decide⟩
theorem dieXsD8 : Statement .dieXsD8 := ⟨by decide, by decide⟩
theorem dieXsD10 : Statement .dieXsD10 := ⟨by decide, by decide⟩
theorem dieXsD12 : Statement .dieXsD12 := ⟨by decide, by decide⟩
theorem dieXsD20 : Statement .dieXsD20 := ⟨by decide, by decide⟩
theorem dieXsD100 : Statement .dieXsD100 := ⟨by decide, by decide⟩
theorem roll : Statement .roll := ⟨by decide, by decide⟩

end Sys2Proof.Laws.Encoding
end

