-- ==== Sys2Proof/Tests/Slice0.lean ====
section
/-! SUPPORT. The model's own tests. Expected values are those of spec/95_test_vectors.md and the examples
in the rules, named in each comment; and for every statement with hypotheses a witness that meets them. -/

namespace Sys2Proof.Tests

open Sys2Proof.Machine

/-! ### Helpers -/

/-- The unit after reset with these values sampled on its ports. -/
def onPorts (cmd : CmdWord) (opa opb seed : Word) (valid : Bool) : State :=
  State.reset.accept ⟨cmd, opa, opb, seed, valid⟩

/-- A unit holding the Mersenne Twister that seed 5489 constructs. -/
def mt5489 : State := State.reset.holdMt (mtSeed Config.unit 5489#64) 312#9

/-- A unit holding a Mersenne Twister of zero words, at a cursor. -/
def mtAt (k : BitVec 9) : State := State.reset.holdMt (Vector.replicate nn 0#64) k

/-- A unit holding an Xorshift* generator. -/
def xsAt (x : Word) : State := State.reset.holdXs x

/-- The same with operands on the ports. -/
def withOperands (s : State) (opa opb : Word) : State := s.accept ⟨0#32, opa, opb, 0#64, false⟩

/-- A field of a result's next state. -/
def field {α : Type} (f : State → α) : Result → Option α
  | .next t => some (f t)
  | .fault _ => none
  | .refused _ => none

/-- A unit with these moves pending. -/
def pending (s : State) (l : List HostMove) : State := s.setInbox l

/-- A command move. -/
def issue (cmd : CmdWord) : HostMove := .issue ⟨cmd, 0#64, 0#64, 0#64, true⟩

/-- A halted unit, with the record of an illegal word. -/
def halted : State := afterFault State.reset 3#4 0x00002007#32

/-! ### Well-formedness: each check refuses an ill-formed term -/

theorem test_wellFormed_reserved : CommandFields.wellFormed ⟨0x02, 0, 0, 1⟩ = false := by decide
theorem test_wellFormed_opcodeZero : CommandFields.wellFormed ⟨0x00, 0, 0, 0⟩ = false := by decide
theorem test_wellFormed_opcodeEight : CommandFields.wellFormed ⟨0x08, 0, 0, 0⟩ = false := by decide
theorem test_wellFormed_noVariant : CommandFields.wellFormed ⟨0x01, 0b00, 0, 0⟩ = false := by decide
theorem test_wellFormed_badVariant : CommandFields.wellFormed ⟨0x05, 0b11, 0, 0⟩ = false := by decide
theorem test_wellFormed_strayVariant : CommandFields.wellFormed ⟨0x07, 0b01, 0, 0⟩ = false := by decide
theorem test_wellFormed_badShape : CommandFields.wellFormed ⟨0x06, 0b01, 0b111, 0⟩ = false := by decide
theorem test_wellFormed_strayShape : CommandFields.wellFormed ⟨0x05, 0b01, 0b001, 0⟩ = false := by decide
theorem test_wellFormed_good : CommandFields.wellFormed ⟨0x06, 0b10, 0b110, 0⟩ = true := by decide

/-! ### Decoding: RSV, S, V, OPC written out bit by bit (30_encoding.md R72, R87) -/

theorem test_decode_constructMt : decode 0b00000000000000000000000100000001#32 = .ok .constructMt := by decide
theorem test_decode_constructXs : decode 0b00000000000000000000001000000001#32 = .ok .constructXs := by decide
theorem test_decode_next : decode 0b00000000000000000000000000000010#32 = .ok .next := by decide
theorem test_decode_nextb : decode 0b00000000000000000000000000000011#32 = .ok .nextb := by decide
theorem test_decode_nextb0 : decode 0b00000000000000000000000000000100#32 = .ok .nextb0 := by decide
theorem test_decode_dieMt : decode 0b00000000000000000000000100000101#32 = .ok .dieMt := by decide
theorem test_decode_dieXs : decode 0b00000000000000000000001000000101#32 = .ok .dieXs := by decide
theorem test_decode_dieMtD4 : decode 0b00000000000000000000000100000110#32 = .ok .dieMtD4 := by decide
theorem test_decode_dieMtD6 : decode 0b00000000000000000000010100000110#32 = .ok .dieMtD6 := by decide
theorem test_decode_dieMtD8 : decode 0b00000000000000000000100100000110#32 = .ok .dieMtD8 := by decide
theorem test_decode_dieMtD10 : decode 0b00000000000000000000110100000110#32 = .ok .dieMtD10 := by decide
theorem test_decode_dieMtD12 : decode 0b00000000000000000001000100000110#32 = .ok .dieMtD12 := by decide
theorem test_decode_dieMtD20 : decode 0b00000000000000000001010100000110#32 = .ok .dieMtD20 := by decide
theorem test_decode_dieMtD100 : decode 0b00000000000000000001100100000110#32 = .ok .dieMtD100 := by decide
theorem test_decode_dieXsD4 : decode 0b00000000000000000000001000000110#32 = .ok .dieXsD4 := by decide
theorem test_decode_dieXsD6 : decode 0b00000000000000000000011000000110#32 = .ok .dieXsD6 := by decide
theorem test_decode_dieXsD8 : decode 0b00000000000000000000101000000110#32 = .ok .dieXsD8 := by decide
theorem test_decode_dieXsD10 : decode 0b00000000000000000000111000000110#32 = .ok .dieXsD10 := by decide
theorem test_decode_dieXsD12 : decode 0b00000000000000000001001000000110#32 = .ok .dieXsD12 := by decide
theorem test_decode_dieXsD20 : decode 0b00000000000000000001011000000110#32 = .ok .dieXsD20 := by decide
theorem test_decode_dieXsD100 : decode 0b00000000000000000001101000000110#32 = .ok .dieXsD100 := by decide
theorem test_decode_roll : decode 0b00000000000000000000000000000111#32 = .ok .roll := by decide

/-- The illegal words of 95 V80. -/
theorem test_decode_illegal :
    decode 0x00000000#32 = .error .unassignedOpcode ∧ decode 0x00000001#32 = .error .variantField ∧
    decode 0x00000301#32 = .error .variantField ∧ decode 0x00000102#32 = .error .variantField ∧
    decode 0x00000402#32 = .error .shapeField ∧ decode 0x00000505#32 = .error .shapeField ∧
    decode 0x00001806#32 = .error .variantField ∧ decode 0x00001D06#32 = .error .shapeField ∧
    decode 0x00002007#32 = .error .reservedBits ∧ decode 0x80000002#32 = .error .reservedBits ∧
    decode 0x000000FF#32 = .error .unassignedOpcode ∧ decode 0xFFFFFFFF#32 = .error .reservedBits := by
  decide

theorem test_decodeTableWord : decodeTableWord 32 0x1506 = some .dieMtD20 := by decide

/-! ### The engines -/

/-- 95 V10: the two rows that tell the odd tests apart, and the row that shows the upper mask. -/
theorem test_twistWord :
    twistWord Config.unit 0#64 1#64 0#64 = 0#64 ∧
    twistWord Config.unit 0#64 2#64 0#64 = 0xB5026F5AA96619E8#64 ∧
    twistWord Config.unit 0xFFFFFFFFFFFFFFFF#64 0#64 0#64 = 0xCAFD90A51699E616#64 ∧
    twistWord Config.unit 0x200000000#64 0#64 5#64 = 0x0000000100000005#64 := by decide

/-- 95 V13: seed 5489 after its first twist, an index of each kind of read. -/
theorem test_twist :
    (twist Config.unit (mtSeed Config.unit 5489#64)).word 0 = 0xB5026F5A9A43C428#64 ∧
    (twist Config.unit (mtSeed Config.unit 5489#64)).word 156 = 0x0EDB229E#64 ∧
    (twist Config.unit (mtSeed Config.unit 5489#64)).word 311 = 0x17186869#64 := by decide +kernel

/-- 95 V1 and V5: seeding. -/
theorem test_mtSeed :
    (mtSeed Config.unit 5489#64).word 311 = 0x055A6163#64 ∧
    (mtSeed Config.unit 0xFFFFFFFFFFFFFFFF#64).word 4 = 0x57E5A680#64 := by decide +kernel

/-- 95 V15: tempering. -/
theorem test_temper :
    temper Config.unit 1#64 = 0x0040002000020801#64 ∧
    temper Config.unit 0x0123456789ABCDEF#64 = 0x2254DA7001198660#64 := by decide

/-- 93 G3: under the canonical configuration the first output for seed 5489 is the published one. -/
theorem test_canonical :
    mtNextValue Config.canonical (mtSeed Config.canonical 5489#64) 312#9 =
      14514284786278117030#64 := by decide +kernel

/-- 95 V40, V43, V44: the sequential form. -/
theorem test_xsStep :
    xsStep Config.unit 12345#64 = 0x0000006074003C34#64 ∧
    xsStep Config.unit 0xFFFFFFFFFFFFFFFF#64 = 0xFFF0001FFE000000#64 := by decide

/-- 95 V60: rows of the bounded mapping. -/
theorem test_bounded :
    bounded 1#64 7#64 0xFFFFFFFFFFFFFFFF#64 = 4#64 ∧
    bounded 0#64 0xFFFFFFFFFFFFFFFF#64 0xFFFFFFFFFFFFFFFF#64 = 0#64 ∧
    bounded 0xFFFFFFFFFFFFFFFE#64 0xFFFFFFFFFFFFFFFF#64 999#64 = 0xFFFFFFFFFFFFFFFE#64 := by decide

/-! ### The commands, one step each -/

/-- 40_capability.md R102, 95 V1. -/
theorem test_constructMt :
    field (fun t => (t.mtWord.map (MtVec.word · 1), t.mtCursor, t.status))
      (exec .constructMt (onPorts 0x101 0 0 5489 true)) =
      some (some 0x116BD3DE#64, some 312#9, 0x100#32) := by decide +kernel

/-- 95 V90: ClockError; `VARIANT` stays 0. -/
theorem test_constructMt_clockError :
    field (fun t => (t.status, t.faultCmd)) (exec .constructMt (onPorts 0x101 0 0 5489 false)) =
      some (0x021#32, 0x101#32) := by decide

/-- 95 P5: CONSTRUCT.XS drops the die and the Mersenne Twister. -/
theorem test_constructXs :
    field (fun t => (t.xsState, t.sides, t.dieValid, t.mtCursor, t.status))
      (exec .constructXs ((mt5489.holdDie 20).accept ⟨0x201, 0, 0, 12345, true⟩)) =
      some (some 0x3039#64, none, false, none, 0x200#32) := by decide

/-- 95 V20. -/
theorem test_next_mt :
    field (fun t => (t.res, t.mtCursor, t.status)) (exec .next mt5489) =
      some (some 853929126#64, some 1#9, 0x900#32) := by decide +kernel

/-- 95 V40. -/
theorem test_next_xs :
    field (fun t => (t.res, t.xsState)) (exec .next (xsAt 12345)) =
      some (some 0x9857FB32C9EFB5E4#64, some 0x6074003C34#64) := by decide

/-- 95 V62. -/
theorem test_nextb :
    field (fun t => (t.res, t.mtCursor)) (exec .nextb (withOperands mt5489 10 20)) =
      some (some 16#64, some 1#9) := by decide +kernel

/-- 95 V61: RangeInverted, and no draw. -/
theorem test_nextb_rangeInverted :
    field (fun t => (t.status, t.mtCursor)) (exec .nextb (withOperands (mtAt 312) 6 5)) =
      some (0x151#32, some 312#9) := by decide

/-- 95 V63. -/
theorem test_nextb0 :
    field (·.res) (exec .nextb0 (withOperands (xsAt 12345) 6 0)) = some (some 0#64) := by decide

/-- 95 V61: ArithmeticError. -/
theorem test_nextb0_zero :
    field (fun t => (t.status, t.mtCursor)) (exec .nextb0 (withOperands (mtAt 312) 0 9)) =
      some (0x111#32, some 312#9) := by decide

/-- 95 V74: any sides count is accepted. -/
theorem test_dieMt :
    field (fun t => (t.sides, t.mtCursor, t.status))
      (exec .dieMt (onPorts 0x105 0xFFFFFFFFFFFFFFFF 0 5 true)) =
      some (some 0xFFFFFFFFFFFFFFFF#64, some 312#9, 0x500#32) := by decide

/-- 95 V73: `STATUS` = 0x600, `SIDES` = 0. -/
theorem test_dieXs :
    field (fun t => (t.sides, t.xsState, t.status)) (exec .dieXs (onPorts 0x205 0 0 7 true)) =
      some (some 0#64, some 7#64, 0x600#32) := by decide

theorem test_dieMtD4 :
    field (fun t => (t.sides, t.status)) (exec .dieMtD4 (onPorts 0x106 0 0 1 true)) =
      some (some 4#64, 0x500#32) := by decide
theorem test_dieMtD6 :
    field (fun t => (t.sides, t.status)) (exec .dieMtD6 (onPorts 0x506 0 0 1 true)) =
      some (some 6#64, 0x500#32) := by decide
theorem test_dieMtD8 :
    field (fun t => (t.sides, t.status)) (exec .dieMtD8 (onPorts 0x906 0 0 1 true)) =
      some (some 8#64, 0x500#32) := by decide
theorem test_dieMtD10 :
    field (fun t => (t.sides, t.status)) (exec .dieMtD10 (onPorts 0xD06 0 0 1 true)) =
      some (some 10#64, 0x500#32) := by decide
theorem test_dieMtD12 :
    field (fun t => (t.sides, t.status)) (exec .dieMtD12 (onPorts 0x1106 0 0 1 true)) =
      some (some 12#64, 0x500#32) := by decide
theorem test_dieMtD20 :
    field (fun t => (t.sides, t.status)) (exec .dieMtD20 (onPorts 0x1506 0 0 1 true)) =
      some (some 20#64, 0x500#32) := by decide
theorem test_dieMtD100 :
    field (fun t => (t.sides, t.status)) (exec .dieMtD100 (onPorts 0x1906 0 0 1 true)) =
      some (some 100#64, 0x500#32) := by decide
theorem test_dieXsD4 :
    field (fun t => (t.sides, t.status)) (exec .dieXsD4 (onPorts 0x206 0 0 1 true)) =
      some (some 4#64, 0x600#32) := by decide
theorem test_dieXsD6 :
    field (fun t => (t.sides, t.status)) (exec .dieXsD6 (onPorts 0x606 0 0 1 true)) =
      some (some 6#64, 0x600#32) := by decide
theorem test_dieXsD8 :
    field (fun t => (t.sides, t.status)) (exec .dieXsD8 (onPorts 0xA06 0 0 1 true)) =
      some (some 8#64, 0x600#32) := by decide
theorem test_dieXsD10 :
    field (fun t => (t.sides, t.status)) (exec .dieXsD10 (onPorts 0xE06 0 0 1 true)) =
      some (some 10#64, 0x600#32) := by decide
theorem test_dieXsD12 :
    field (fun t => (t.sides, t.status)) (exec .dieXsD12 (onPorts 0x1206 0 0 1 true)) =
      some (some 12#64, 0x600#32) := by decide
theorem test_dieXsD20 :
    field (fun t => (t.sides, t.status)) (exec .dieXsD20 (onPorts 0x1606 0 0 1 true)) =
      some (some 20#64, 0x600#32) := by decide
theorem test_dieXsD100 :
    field (fun t => (t.sides, t.status)) (exec .dieXsD100 (onPorts 0x1A06 0 0 1 true)) =
      some (some 100#64, 0x600#32) := by decide

/-- 95 V70: the second roll, from the state after draw 1. -/
theorem test_roll :
    field (·.res) (exec .roll ((xsAt 0x6074003C34).holdDie 6)) = some (some 3#64) := by decide

/-- 95 V74: SidesOverflow. -/
theorem test_roll_sidesOverflow :
    field (·.status) (exec .roll ((mtAt 312).holdDie 0xFFFFFFFFFFFFFFFF)) = some 0x561#32 := by decide

/-! ### The step -/

/-- 95 V90: the first command after reset is NEXT. -/
theorem test_step_notConstructed :
    field (fun t => (t.status, t.faultCmd, t.inbox)) (step (State.reset.withFetchWord 32 0x2)) =
      some (0x041#32, 0x2#32, []) := by decide

/-- 95 P6: an illegal word. -/
theorem test_step_illegal :
    field (fun t => (t.status, t.faultCmd)) (step (pending State.reset [issue 0x2007])) =
      some (0x031#32, 0x2007#32) := by decide

/-- 95 V91: a halted unit ignores a construct with a valid seed. -/
theorem test_step_halted :
    field (fun t => (t.status, t.variant, t.inbox)) (step (pending halted [issue 0x201])) =
      some (0x031#32, .none, []) := by decide

/-- 95 V95: reset from a halted unit that holds a die. -/
theorem test_step_reset :
    field (fun t => (t.status, t.faultCmd, t.xsState, t.sides))
      (step (pending (afterFault ((xsAt 7).holdDie 0) 1#4 7#32) [.assertReset])) =
      some (0#32, 0#32, none, none) := by decide

/-- 10_state.md R29: `RES` holds no value after reset. -/
theorem test_step_readRes : step (pending State.reset [.readRes]) = .fault .resHoldsNoValue := rfl

/-- 10_state.md R30: a read of `STATUS`. -/
theorem test_step_readStatus :
    field (·.hostRead) (step (pending halted [.readStatus])) = some (some (.status 0x031#32)) := by
  decide

/-- 70_reset_and_hazards.md R274, 95 V70: a run of a die and its first roll, followed by a reset, which ends the
run; with the reset counted in, the steps are no run. -/
theorem test_observe :
    observe 2 (pending State.reset [.issue ⟨0x606, 0, 0, 12345, true⟩, issue 0x7, .powerCycle]) =
      some ⟨[1#64], 0xE00#32, 0#32⟩ ∧
    observe 1 (pending State.reset [.issue ⟨0x606, 0, 0, 12345, true⟩, issue 0x7, .powerCycle]) = none ∧
    observe 3 (pending State.reset [.issue ⟨0x606, 0, 0, 12345, true⟩, issue 0x7, .powerCycle]) = none := by
  decide +kernel

/-- 60_exceptions.md R223: a run whose only command faults does not end well; one of a construct does. -/
theorem test_runEndsWell :
    runEndsWell 1 (pending State.reset [issue 0x7]) = false ∧
    runEndsWell 1 (pending State.reset [issue 0x201]) = true := by decide +kernel

/-! ### The assembler (30_encoding.md R84 to R86) -/

theorem test_parseLine_nextb :
    parseLine "NEXTB 0x10, 20 ; comment".toList = some [.command .nextb [16#64, 20#64]] := by decide +kernel
theorem test_parseLine_dieShape :
    parseLine "DIE.XS d100".toList = some [.dieShape .xs .d100] := by decide +kernel
theorem test_parseLine_refuses :
    parseLine "DIE.MT 18446744073709551616".toList = none ∧ parseLine "ROLLS 0".toList = none ∧
    parseLine "NEXTB 1".toList = none := by decide +kernel
theorem test_parseLine_rolls : parseLine "ROLLS 0x10".toList = some [.rolls 16] := by decide +kernel
theorem test_assemble_dieMt :
    AsmLine.assemble (.command .dieMt [6#64]) (some 5489#64) =
      some [.issue ⟨0x105#32, 6#64, 0#64, 5489#64, true⟩] := by decide

/-! ### Witnesses: for each statement, concrete states and operands that meet its hypotheses -/

/-- A draw from a Mersenne Twister. -/
theorem drawsValue_mt {s : State} {v : MtVec} {k : BitVec 9} (h : holdsMt s v k) :
    drawsValue s (mtDrawnValue v k) (mtDrawnState v k s) :=
  .inl ⟨v, k, h, rfl, rfl⟩

/-- A draw from an Xorshift* generator. -/
theorem drawsValue_xs {s : State} {x : Word} (h : holdsXs s x) :
    drawsValue s (xsUpdated x * 0x2545F4914F6CDD1D#64) { s with xsState := some (xsUpdated x) } :=
  .inr ⟨x, h, rfl, rfl⟩

/-- The zero vector at a cursor in its range. -/
theorem holdsMt_mtAt (k : BitVec 9) (h : k.toNat ≤ 312) : holdsMt (mtAt k) (Vector.replicate nn 0#64) k :=
  ⟨rfl, rfl, rfl, h⟩

theorem holdsXs_xsAt (x : Word) : holdsXs (xsAt x) x := ⟨rfl, rfl⟩

theorem witness_ListedIllegalWords_bullets :
    isListedIllegal 0x00000000#32 ∧ isListedIllegal 0x00000008#32 ∧ isListedIllegal 0x000000FF#32 ∧
    isListedIllegal 0x00002007#32 ∧ isListedIllegal 0x80000002#32 ∧
    isListedIllegal 0x00000001#32 ∧ isListedIllegal 0x00000301#32 ∧
    isListedIllegal 0x00000102#32 ∧ isListedIllegal 0x00001D06#32 ∧ isListedIllegal 0x00000402#32 ∧
    ¬ isListedIllegal 0x00001A06#32 :=
  ⟨by decide, by decide, by decide, by decide, by decide, by decide, by decide, by decide, by decide,
   by decide, by decide⟩

theorem witness_ListedIllegalWordsRaiseIllegalCommand :
    (pending State.reset [issue 0x2007]).inbox = .issue ⟨0x2007#32, 0#64, 0#64, 0#64, true⟩ :: [] ∧
    (pending State.reset [issue 0x2007]).resetPin = false ∧
    (pending State.reset [issue 0x2007]).fault = false ∧
    (pending State.reset [issue 0x2007]).ports = Ports.idle ∧ isListedIllegal 0x2007#32 :=
  ⟨rfl, rfl, rfl, rfl, by decide⟩

theorem witness_StepRunsTheDecodedCommand :
    (pending (xsAt 5) [issue 0x2]).inbox = .issue ⟨0x2#32, 0#64, 0#64, 0#64, true⟩ :: [] ∧
    (pending (xsAt 5) [issue 0x2]).resetPin = false ∧ (pending (xsAt 5) [issue 0x2]).fault = false ∧
    decode 0x2#32 = .ok .next := by decide

theorem witness_PlacedTableWordIsTheNextCommand :
    0x1A06 < 2 ^ 32 ∧ State.reset.fault = false ∧ decodeTableWord 32 0x1A06 = some .dieXsD100 := by decide

theorem witness_IgnoredPortsHaveNoEffect :
    decode 0x4#32 = .ok .nextb0 ∧
    Ports.agreeOn Instr.nextb0.format ⟨0x4#32, 6#64, 0#64, 0#64, false⟩ ⟨0x4#32, 6#64, 9#64, 8#64, true⟩ ∧
    decode 0x8#32 = .error .unassignedOpcode := by
  refine ⟨by decide, ⟨rfl, fun _ => rfl, ?_, ?_⟩, by decide⟩ <;> intro h <;> cases h

theorem witness_UnitWithoutPendingMoveWaits : (xsAt 5).inbox = [] ∧ (xsAt 5).resetPin = false := by decide

theorem witness_FaultsArePrecise :
    ∃ t, (pending (xsAt 5) [issue 0x3]).inbox = issue 0x3 :: [] ∧
      (pending (xsAt 5) [issue 0x3]).resetPin = false ∧ (pending (xsAt 5) [issue 0x3]).fault = false ∧
      (pending (xsAt 5) [issue 0x3]).ports = Ports.idle ∧
      step (pending (xsAt 5) [issue 0x3]) = .next t ∧ t.fault = true :=
  ⟨_, rfl, rfl, rfl, rfl, rfl, rfl⟩

/-- A state on which each cause but `IllegalCommand`, which no decoded command raises, has its condition. -/
theorem witness_EachCauseIsRaisedOnItsCondition :
    causeCondition .arithmeticError .nextb (withOperands (xsAt 5) 7 7) ∧
    causeCondition .arithmeticError .nextb0 (withOperands (xsAt 5) 0 7) ∧
    causeCondition .arithmeticError .roll ((xsAt 5).holdDie 0) ∧
    causeCondition .clockError .dieMtD4 (onPorts 0x106 0 0 5 false) ∧
    causeCondition .notConstructed .roll State.reset ∧
    causeCondition .rangeInverted .nextb (withOperands (xsAt 5) 1 0) ∧
    causeCondition .sidesOverflow .roll ((xsAt 5).holdDie 0xFFFFFFFFFFFFFFFF) ∧
    causeCondition .noDie .roll (xsAt 5) ∧ (xsAt 5).fault = false := by
  unfold causeCondition
  decide

theorem witness_HaltedUnitOnlyLeavesByReset :
    (pending halted [issue 0x2]).fault = true ∧ (pending halted [issue 0x2]).resetPin = false ∧
    (pending halted [issue 0x2]).inbox = issue 0x2 :: [] ∧
    (pending halted [.readStatus]).inbox = .readStatus :: [] ∧
    (pending halted [.readFaultCmd]).inbox = .readFaultCmd :: [] ∧
    (pending (halted.writeRes 4) [.readRes]).inbox = .readRes :: [] ∧
    (halted.writeRes 4).fault = true ∧ (halted.writeRes 4).resValid = true ∧
    (halted.writeRes 4).res = some 4#64 := by decide

theorem witness_HaltedRunNeverEndsWell :
    (pending halted [issue 0x201, .readStatus]).fault = true ∧
    (pending halted [issue 0x201, .readStatus]).resetPin = false ∧
    (∀ m ∈ (pending halted [issue 0x201, .readStatus]).inbox, m ≠ .assertReset ∧ m ≠ .powerCycle) ∧
    ∃ t, Sys2Proof.core.run 2 (pending halted [issue 0x201, .readStatus]) = .next t :=
  ⟨rfl, rfl, by decide, _, rfl⟩

theorem witness_ResetGivesEveryRegisterItsResetValue :
    (pending halted [.assertReset]).inbox = .assertReset :: [] ∧
    (pending ((xsAt 5).driveReset true) [issue 0x2]).inbox = issue 0x2 :: [] ∧
    (pending ((xsAt 5).driveReset true) [.powerCycle]).inbox = .powerCycle :: [] ∧
    (pending ((xsAt 5).driveReset true) [.releaseReset]).inbox = .releaseReset :: [] ∧
    (pending ((xsAt 5).driveReset true) [.readStatus]).inbox = .readStatus :: [] ∧
    (pending ((xsAt 5).driveReset true) [.readFaultCmd]).inbox = .readFaultCmd :: [] ∧
    (pending ((xsAt 5).driveReset true) [.readRes]).inbox = .readRes :: [] ∧
    ((xsAt 5).driveReset true).inbox = [] ∧ ((xsAt 5).driveReset true).resetPin = true ∧
    (pending (xsAt 5) [.releaseReset]).inbox = .releaseReset :: [] ∧ (xsAt 5).resetPin = false := by decide

theorem witness_PowerOnActsAsReset : (pending halted [.powerCycle]).inbox = .powerCycle :: [] := rfl

theorem witness_HostReadsHandBackTheRegister :
    (pending (xsAt 5) [.readStatus]).resetPin = false ∧
    (pending (xsAt 5) [.readStatus]).inbox = .readStatus :: [] ∧
    (pending (xsAt 5) [.readFaultCmd]).inbox = .readFaultCmd :: [] ∧
    (pending ((xsAt 5).writeRes 9) [.readRes]).inbox = .readRes :: [] ∧
    ((xsAt 5).writeRes 9).resValid = true ∧ ((xsAt 5).writeRes 9).res = some 9#64 ∧
    (pending (xsAt 5) [.readRes]).inbox = .readRes :: [] ∧ (xsAt 5).resValid = false := by decide

/-- A state of a unit that rolls a Mersenne Twister die meets the invariant, at the last cursor. -/
theorem inv_mtDie : ((mtAt 312).holdDie 6).Inv where
  generatorHeld := ⟨⟨_, _, rfl, rfl, by decide⟩, rfl⟩
  dieHasGenerator := by decide
  sidesHeld := rfl
  resHeld := rfl
  recordClear := by decide
  causeNamed := by decide
  heldInReset := by decide
  portsIdle := rfl

theorem witness_StatusFieldsMirrorTheRegisters :
    ((mtAt 312).holdDie 6).Inv ∧ ((mtAt 312).holdDie 6).fault = false := ⟨inv_mtDie, rfl⟩

theorem witness_EveryStepKeepsTheInvariant :
    ∃ s t : State, s.Inv ∧ step s = .next t ∧ s.variant = .mt := ⟨_, _, inv_mtDie, rfl, rfl⟩

theorem witness_OnlyAReadOfAbsentResultStops : ((mtAt 312).holdDie 6).Inv := inv_mtDie

theorem witness_EveryCommandAnswersFromTheInvariant :
    ((mtAt 312).holdDie 6).Inv ∧ ((mtAt 312).holdDie 6).variant ≠ .none := ⟨inv_mtDie, by decide⟩

/-- For the three statements of what a construct leaves: both values of `SEED_VALID`. -/
theorem witness_ConstructCommands :
    (onPorts 0x101 0 0 5489 true).ports.seedValid = true ∧
    (onPorts 0x101 0 0 5489 false).ports.seedValid = false := by decide

theorem witness_FixedShapeEqualsGeneralDie :
    (Instr.dieMtD100, 100#64) ∈ mtShapeTable ∧ (onPorts 0x105 100 0 1 true).ports.opa = 100#64 ∧
    (Instr.dieXsD4, 4#64) ∈ xsShapeTable ∧ (onPorts 0x205 4 0 1 true).ports.opa = 4#64 := by decide

/-- Two commands of one `V` on one seed, from different states and with different other ports; and one command
that reads `OPA`, with equal `OPA`. -/
theorem witness_ConstructForgetsThePreviousGenerator :
    Instr.dieXsD6.format.readsSeed = true ∧ Instr.constructXs.format.readsSeed = true ∧
    (encodeFields .dieXsD6).v = (encodeFields .constructXs).v ∧
    ((mtAt 5).accept ⟨0x606, 1, 2, 7, true⟩).ports.seed = (onPorts 0x201 3 4 7 true).ports.seed ∧
    ((mtAt 5).accept ⟨0x606, 1, 2, 7, true⟩).ports.seedValid = true ∧
    (onPorts 0x201 3 4 7 true).ports.seedValid = true ∧
    Instr.dieMt.format.readsOpa = true ∧
    ((mtAt 5).accept ⟨0x105, 9, 2, 7, true⟩).ports.opa = (onPorts 0x105 9 0 7 true).ports.opa := by decide

theorem witness_ConstructFrame :
    Instr.dieXsD6.format.readsSeed = true ∧
    (∃ t, exec .dieXsD6 (onPorts 0x606 0 0 7 true) = .next t) ∧
    ∃ t, exec .dieXsD6 (onPorts 0x606 0 0 7 false) = .next t := ⟨rfl, ⟨_, rfl⟩, ⟨_, rfl⟩⟩

/-- Draws at the ends of the cursor's range, and from Xorshift*. -/
theorem witness_NextReturnsOneDraw :
    (∃ r t, drawsValue (mtAt 0) r t) ∧ (∃ r t, drawsValue (mtAt 311) r t) ∧
    (∃ r t, drawsValue (mtAt 312) r t) ∧ (∃ r t, drawsValue (xsAt 0) r t) ∧
    State.reset.variant = .none :=
  ⟨⟨_, _, drawsValue_mt (holdsMt_mtAt 0 (by decide))⟩, ⟨_, _, drawsValue_mt (holdsMt_mtAt 311 (by decide))⟩,
   ⟨_, _, drawsValue_mt (holdsMt_mtAt 312 (by decide))⟩, ⟨_, _, drawsValue_xs (holdsXs_xsAt 0)⟩, rfl⟩

theorem witness_NextbReturnsOneBoundedDraw :
    (∃ r t, drawsValue (withOperands (xsAt 5) 6 7) r t) ∧ 6#64 < 7#64 ∧
    (withOperands (xsAt 5) 6 7).ports.opa < (withOperands (xsAt 5) 6 7).ports.opb ∧
    (xsAt 5).variant ≠ .none ∧
    (withOperands (xsAt 5) 7 6).ports.opb < (withOperands (xsAt 5) 7 6).ports.opa ∧
    (withOperands (xsAt 5) 7 7).ports.opb = (withOperands (xsAt 5) 7 7).ports.opa :=
  ⟨⟨_, _, drawsValue_xs ⟨rfl, rfl⟩⟩, by decide, by decide, by decide, by decide, rfl⟩

theorem witness_Nextb0ReturnsOneDrawBelowMax :
    (∃ r t, drawsValue (withOperands (xsAt 5) 1 0) r t) ∧
    (withOperands (xsAt 5) 1 0).ports.opa ≠ 0#64 ∧ (xsAt 5).variant ≠ .none ∧
    (withOperands (xsAt 5) 0 1).ports.opa = 0#64 :=
  ⟨⟨_, _, drawsValue_xs ⟨rfl, rfl⟩⟩, by decide, by decide, rfl⟩

theorem witness_BoundedStaysInItsRange : 0xFFFFFFFFFFFFFFFE#64 < 0xFFFFFFFFFFFFFFFF#64 := by decide

theorem witness_DrawFrame :
    Instr.roll.draws = true ∧ ((mtAt 311).holdDie 6).fault = false ∧
    (∃ t, exec .roll ((mtAt 311).holdDie 6) = .next t ∧ t.fault = false) ∧
    (∃ t, exec .roll (xsAt 5) = .next t ∧ t.fault = true) ∧
    ((mtAt 311).holdDie 6).variant ≠ .xs ∧ (xsAt 5).variant ≠ .mt ∧
    ((mtAt 311).holdDie 6).mtCursor = some 311#9 ∧ (311#9).toNat < 312 :=
  ⟨rfl, rfl, ⟨_, rfl, rfl⟩, ⟨_, rfl, rfl⟩, by decide, by decide, rfl, by decide⟩

theorem witness_OnlyConstructOrResetChangesVariantAndDie :
    ∃ t, step (pending (xsAt 5) [issue 0x606]) = .next t ∧
      (pending (xsAt 5) [issue 0x606]).resetPin = false ∧ t.dieValid ≠ (xsAt 5).dieValid :=
  ⟨_, rfl, rfl, by decide⟩

theorem witness_OnlyACompletedDrawOrResetChangesTheResult :
    ∃ t, step (pending (xsAt 5) [issue 0x2]) = .next t ∧ (pending (xsAt 5) [issue 0x2]).resetPin = false ∧
      t.resValid ≠ (xsAt 5).resValid ∧
      (pending (xsAt 5) [issue 0x2]).pendingCommand = some .next ∧ Instr.next.draws = true ∧
      t.fault = false :=
  ⟨_, rfl, rfl, by decide, by decide, rfl, rfl⟩

/-- The sides at the ends of the range that rolls, and at the two that fault. -/
theorem witness_RollReturnsOneFace :
    (∃ r t, drawsValue ((mtAt 312).holdDie 0xFFFFFFFFFFFFFFFE) r t) ∧
    ((mtAt 312).holdDie 0xFFFFFFFFFFFFFFFE).dieValid = true ∧
    ((mtAt 312).holdDie 0xFFFFFFFFFFFFFFFE).sides = some 0xFFFFFFFFFFFFFFFE#64 ∧
    0xFFFFFFFFFFFFFFFE#64 ≠ 0#64 ∧ 0xFFFFFFFFFFFFFFFE#64 ≠ 0xFFFFFFFFFFFFFFFF#64 ∧
    State.reset.variant = .none ∧ (xsAt 5).variant ≠ .none ∧ (xsAt 5).dieValid = false ∧
    ((xsAt 5).holdDie 0xFFFFFFFFFFFFFFFF).sides = some 0xFFFFFFFFFFFFFFFF#64 ∧
    ((xsAt 5).holdDie 0).sides = some 0#64 :=
  ⟨⟨_, _, drawsValue_mt ⟨rfl, rfl, rfl, by decide⟩⟩, rfl, rfl, by decide, by decide, rfl, by decide, rfl,
   rfl, rfl⟩

theorem witness_CompletedRollIsAFaceOfTheDie :
    ((mtAt 312).holdDie 6).GeneratorHeld ∧ ((mtAt 312).holdDie 6).fault = false ∧
    ∃ t, exec .roll ((mtAt 312).holdDie 6) = .next t ∧ t.fault = false :=
  ⟨inv_mtDie.generatorHeld, rfl, _, rfl, rfl⟩

theorem witness_OneSidedDieRollsOne :
    (∃ r t, drawsValue ((xsAt 5).holdDie 1) r t) ∧ ((xsAt 5).holdDie 1).dieValid = true ∧
    ((xsAt 5).holdDie 1).sides = some 1#64 := ⟨⟨_, _, drawsValue_xs ⟨rfl, rfl⟩⟩, rfl, rfl⟩

theorem witness_LargeMtDieReturnsOnePlusTheDraw :
    holdsMt ((mtAt 312).holdDie 0x80000001) (Vector.replicate nn 0#64) 312#9 ∧
    ((mtAt 312).holdDie 0x80000001).dieValid = true ∧
    ((mtAt 312).holdDie 0x80000001).sides = some 0x80000001#64 ∧ 2 ^ 31 < (0x80000001#64).toNat ∧
    0x80000001#64 ≠ 0xFFFFFFFFFFFFFFFF#64 :=
  ⟨⟨rfl, rfl, rfl, by decide⟩, rfl, rfl, by decide, by decide⟩

theorem witness_SeedingPassFillsTheVectorInOrder :
    ∃ t, (onPorts 0x101 0 0 5489 true).ports.seed = 5489#64 ∧
      (onPorts 0x101 0 0 5489 true).ports.seedValid = true ∧
      exec .constructMt (onPorts 0x101 0 0 5489 true) = .next t := ⟨_, rfl, rfl, rfl⟩

/-- Two seeds that agree in bits 0 to 59, and the two of the rule's example, which agree in the mix alone. -/
theorem witness_SeededWordsDependOnTheMixedSeedBits :
    (∀ j, j < 60 → (0xF000000000000000#64).getLsbD j = (0#64).getLsbD j) ∧
    seedMix 0xFFFFFFFFFFFFFFFF#64 = seedMix 0#64 := by
  refine ⟨?_, by decide⟩
  decide

/-- The rows of R137's table meet at these indices. -/
theorem witness_TwistReadsOldAndNewWordsInPlace :
    0 ≤ 311 ∧ 155 ≤ 311 ∧ 156 ≤ 311 ∧ 310 ≤ 311 ∧ 311 ≤ 311 := by decide

theorem witness_ZeroVectorTwistsToZero :
    ∀ i, i ≤ 311 → MtVec.word (Vector.replicate nn 0#64) i = 0#64 := by
  intro i _
  simp [MtVec.word]

theorem witness_MtDrawFitsThirtyOneBits :
    holdsMt (mtAt 0) (Vector.replicate nn 0#64) 0#9 ∧ holdsMt (mtAt 312) (Vector.replicate nn 0#64) 312#9 :=
  ⟨holdsMt_mtAt 0 (by decide), holdsMt_mtAt 312 (by decide)⟩

theorem witness_CursorMovesOnlyByOneExtraction :
    holdsMt (mtAt 311) (Vector.replicate nn 0#64) 311#9 ∧ ∃ t, exec .next (mtAt 311) = .next t :=
  ⟨holdsMt_mtAt 311 (by decide), _, rfl⟩

theorem witness_DrawCountFixesCursorAndTwists :
    Instr.dieMtD20.format.readsSeed = true ∧ (onPorts 0x1506 0 0 5489 true).ports.seedValid = true ∧
    ∃ s, exec .dieMtD20 (onPorts 0x1506 0 0 5489 true) = .next s ∧ s.variant = .mt :=
  ⟨rfl, rfl, _, rfl, rfl⟩

theorem witness_XorshiftStepsAreSequential : holdsXs (xsAt 12345) 12345#64 := holdsXs_xsAt _

theorem witness_XorshiftZeroStateIsTheIsolatedFixedPoint :
    holdsXs ((withOperands (xsAt 0) 1 2).holdDie 6) 0#64 ∧
    ((withOperands (xsAt 0) 1 2).holdDie 6).ports.opa < ((withOperands (xsAt 0) 1 2).holdDie 6).ports.opb ∧
    ((withOperands (xsAt 0) 1 2).holdDie 6).dieValid = true ∧
    ((withOperands (xsAt 0) 1 2).holdDie 6).sides = some 6#64 ∧ 6#64 ≠ 0#64 ∧
    6#64 ≠ 0xFFFFFFFFFFFFFFFF#64 ∧
    (onPorts 0x201 0 0 0 true).ports.seedValid = true ∧ (onPorts 0x201 0 0 0 true).ports.seed = 0#64 :=
  ⟨⟨rfl, rfl⟩, by decide, rfl, rfl, by decide, by decide, rfl, rfl⟩

theorem witness_XorshiftDrawsIterateTheUpdate :
    Instr.constructXs.format.readsSeed = true ∧ (onPorts 0x201 0 0 12345 true).ports.seedValid = true ∧
    ∃ s, exec .constructXs (onPorts 0x201 0 0 12345 true) = .next s ∧ s.variant = .xs :=
  ⟨rfl, rfl, _, rfl, rfl⟩

theorem witness_AssembledCommandPlacesItsOperands :
    (∃ p, assembleCommand .nextb [1#64, 2#64] none = some p) ∧
    (∃ p, assembleCommand .dieXs [6#64] (some 7#64) = some p) ∧
    ∃ p, assembleCommand .roll [] (some 7#64) = some p := ⟨⟨_, rfl⟩, ⟨_, rfl⟩, ⟨_, rfl⟩⟩

/-- The normative configuration fits the registers, and the canonical one. -/
theorem witness_EveryConfigurationKeepsTheInvariant :
    Config.unit.Fits ∧ Config.canonical.Fits ∧
    ∃ s t : State, s.Inv ∧ stepUnder Config.canonical s = .next t ∧ s.variant = .mt :=
  ⟨Config.fits_unit, ⟨rfl, by decide, by decide⟩, _, _, inv_mtDie, rfl, rfl⟩

theorem witness_RunWithAFaultNeverEndsWell :
    ∃ t, isRun 2 (pending State.reset [issue 0x7, issue 0x201]) = true ∧ 1 ≤ 2 ∧
      Sys2Proof.core.run 1 (pending State.reset [issue 0x7, issue 0x201]) = .next t ∧ t.fault = true :=
  ⟨_, by decide, by decide, rfl, rfl⟩

theorem witness_RunOfADieEndsWellAndObservesItsRolls :
    (pending State.reset [issue 0x606, issue 0x7]).startsRun = true ∧
    (pending State.reset [issue 0x606, issue 0x7]).inbox =
      .issue ⟨0x606#32, 0, 0, 0, true⟩ :: [⟨0x7#32, 0, 0, 0, true⟩].map .issue ∧
    decode 0x606#32 = .ok .dieXsD6 ∧ dieSidesOf .dieXsD6 ⟨0x606#32, 0, 0, 0, true⟩ = some 6#64 ∧
    dieSidesOf .dieMt ⟨0x105#32, 9, 0, 0, true⟩ = some 9#64 ∧ dieSidesOf .next ⟨0x2#32, 9, 0, 0, true⟩ = none ∧
    6#64 ≠ 0#64 ∧ 6#64 ≠ 0xFFFFFFFFFFFFFFFF#64 ∧ decode 0x7#32 = .ok .roll := by decide

end Sys2Proof.Tests
end

/-! PROOFS of the family 00_scope: the unit is the machine under the normative configuration, and under every
configuration that fits the registers a step keeps the invariant of reachable states. -/

section
namespace Sys2Proof.Machine

/-! ### What a move of the host can do, whatever commands mean -/

/-- Everything a command step that answers can do (40_capability.md R100). -/
theorem runCommandWith_cases {ex : Instr → State → Result} {p : Ports} {s t : State}
    (h : runCommandWith ex p s = .next t) :
    (s.fault = true ∧ t = s) ∨
    (∃ e, s.fault = false ∧ decode p.cmd = .error e ∧
      t = ((s.accept p).raise .illegalCommand).release) ∨
    (∃ i u, s.fault = false ∧ decode p.cmd = .ok i ∧ ex i (s.accept p) = .next u ∧ t = u.release) := by
  cases hf : s.fault with
  | true =>
    rw [runCommandWith_halted ex p hf] at h
    cases h
    exact .inl ⟨rfl, rfl⟩
  | false =>
    cases hd : decode p.cmd with
    | error e =>
      rw [runCommandWith_illegal ex p hf hd] at h
      cases h
      exact .inr (.inl ⟨e, rfl, rfl, rfl⟩)
    | ok i =>
      rw [runCommandWith_legal ex p hf hd] at h
      obtain ⟨u, hu, rfl⟩ := mapNext_eq_next h
      exact .inr (.inr ⟨i, u, rfl, rfl, hu, rfl⟩)

/-- Everything a move that answers can do (70_reset_and_hazards.md R275). -/
theorem acceptMoveWith_cases {ex : Instr → State → Result} {m : HostMove} {s t : State}
    (h : acceptMoveWith ex m s = .next t) :
    (∃ p, m = .issue p ∧ s.resetPin = true ∧ t = s) ∨
    (∃ p, m = .issue p ∧ s.resetPin = false ∧ runCommandWith ex p s = .next t) ∨
    (m = .assertReset ∧ t = (s.driveReset true).resetUnit) ∨
    (m = .releaseReset ∧ t = s.driveReset false) ∨
    (m = .powerCycle ∧ t = s.resetUnit) ∨
    (∃ v, m = .readRes ∧ s.readRes = .ok v ∧ t = s.reply (.res v)) ∨
    (m = .readStatus ∧ t = s.reply (.status s.readStatus)) ∨
    (m = .readFaultCmd ∧ t = s.reply (.faultCmd s.readFaultCmd)) := by
  cases m with
  | issue p =>
    cases hr : s.resetPin <;> simp_all [acceptMoveWith]
  | readRes =>
    cases hv : s.readRes <;> simp_all [acceptMoveWith]
  | assertReset | releaseReset | powerCycle | readStatus | readFaultCmd =>
    obtain rfl := Host.Outcome.next.inj h
    simp

/-! ### The invariant between commands: reset, the host's side, and a unit held in reset -/

/-- With `RESET` low the invariant asks nothing of the registers' reset values. -/
theorem heldInReset_of_low {s : State} (h : s.resetPin = false) : s.resetPin = true → s = s.resetUnit := by
  simp [h]

/-- A unit that was just reset meets the invariant, at either level of `RESET`. -/
theorem inv_resetUnit (s : State) : s.resetUnit.Inv where
  generatorHeld := ⟨rfl, rfl, rfl⟩
  dieHasGenerator := by simp
  sidesHeld := rfl
  resHeld := rfl
  recordClear := by simp
  causeNamed := by simp
  heldInReset := by simp
  portsIdle := rfl

/-- Taking up a move keeps the invariant: it speaks of the unit, not of what the host has pending. -/
theorem State.Inv.setInbox {s : State} (h : s.Inv) (l : List HostMove) : (s.setInbox l).Inv :=
  { h with heldInReset := fun hp => congrArg (·.setInbox l) (h.heldInReset hp) }

/-- Handing a value to the host keeps the invariant (20_memory.md R56). -/
theorem State.Inv.reply {s : State} (h : s.Inv) (r : HostReply) : (s.reply r).Inv :=
  { h with heldInReset := fun hp => congrArg (·.reply r) (h.heldInReset hp) }

/-- Releasing `RESET` keeps the invariant. -/
theorem State.Inv.driveReset_low {s : State} (h : s.Inv) : (s.driveReset false).Inv :=
  { h with heldInReset := heldInReset_of_low rfl }

/-- Holding the unit in reset while `RESET` is high keeps the invariant. -/
theorem State.Inv.holdInReset {s : State} (h : s.Inv) : s.holdInReset.Inv := by
  cases hr : s.resetPin with
  | false => rwa [holdInReset_low hr]
  | true =>
    rw [holdInReset_high hr]
    exact inv_resetUnit s

/-! ### The invariant while a command executes -/

/-- The unit executes a command: `RESET` is low, the ports may hold what was sampled, and the state the command
would leave if it completed now meets the invariant of reachable states. -/
structure State.CommandInv (s : State) : Prop where
  /-- a command presented under `RESET` is dropped, so none executes then (70_reset_and_hazards.md R260) -/
  resetLow : s.resetPin = false
  /-- once the ports are idle again the state meets the invariant -/
  completes : s.release.Inv

/-- The unit accepts a command. -/
theorem State.Inv.accept {s : State} (h : s.Inv) (hr : s.resetPin = false) (p : Ports) :
    (s.accept p).CommandInv where
  resetLow := hr
  completes := { h with heldInReset := heldInReset_of_low hr, portsIdle := rfl }

/-- The codes of the causes are 1 to 7 (60_exceptions.md R221). -/
theorem toNat_code_mem (f : Cause) : 1 ≤ f.code.toNat ∧ f.code.toNat ≤ 7 := by
  cases f <;> decide

/-- Raising a fault keeps the invariant: the record then names one of the causes (60_exceptions.md R222). -/
theorem State.CommandInv.raise {s : State} (h : s.CommandInv) (f : Cause) : (s.raise f).CommandInv where
  resetLow := h.resetLow
  completes := { h.completes with
    recordClear := by simp
    causeNamed := fun _ => toNat_code_mem f
    heldInReset := heldInReset_of_low h.resetLow }

/-- Writing `RES` keeps the invariant. -/
theorem State.CommandInv.writeRes {s : State} (h : s.CommandInv) (v : Word) : (s.writeRes v).CommandInv where
  resetLow := h.resetLow
  completes := { h.completes with
    resHeld := rfl
    heldInReset := heldInReset_of_low h.resetLow }

/-- Dropping the die keeps the invariant. -/
theorem State.CommandInv.dropDie {s : State} (h : s.CommandInv) : s.dropDie.CommandInv where
  resetLow := h.resetLow
  completes := { h.completes with
    dieHasGenerator := by simp
    sidesHeld := rfl
    heldInReset := heldInReset_of_low h.resetLow }

/-- A die over a generator keeps the invariant (10_state.md R26). -/
theorem State.CommandInv.holdDie {s : State} (h : s.CommandInv) (hv : s.variant ≠ .none) (n : Word) :
    (s.holdDie n).CommandInv where
  resetLow := h.resetLow
  completes := { h.completes with
    dieHasGenerator := fun _ => hv
    sidesHeld := rfl
    heldInReset := heldInReset_of_low h.resetLow }

/-- New generator registers keep the invariant when they hold the state of the variant they name, and leave no
die without a generator: the rest of the invariant does not read them. -/
theorem State.CommandInv.of_generator {s t : State} (h : s.CommandInv) (hg : t.GeneratorHeld)
    (hv : s.dieValid = true → t.variant ≠ .none)
    (ht : t = { s with
      variant := t.variant, mtWord := t.mtWord, mtCursor := t.mtCursor, xsState := t.xsState }) :
    t.CommandInv := by
  generalize t.variant = a, t.mtWord = v, t.mtCursor = k, t.xsState = x at ht hv
  subst ht
  exact ⟨h.resetLow, { h.completes with
    generatorHeld := hg
    dieHasGenerator := hv
    heldInReset := heldInReset_of_low h.resetLow }⟩

/-- Seeding keeps the invariant under a configuration that fits (40_capability.md R102). -/
theorem State.CommandInv.seedGenerator {c : Config} (hc : c.Fits) {s : State} (h : s.CommandInv)
    (e : Engine) (seed : Word) : (s.seedGenerator c e seed).CommandInv := by
  obtain ⟨hg, hv⟩ := generatorHeld_seedGenerator hc e seed s
  exact h.of_generator hg (fun _ => hv) (seedGenerator_frame c e seed s)

/-- A draw writes the registers of its engine's state and nothing else (40_capability.md R104). -/
theorem draw_frame {c : Config} {s t : State} {r : Word} (h : draw c s = .ok (r, t)) :
    t = { s with mtWord := t.mtWord, mtCursor := t.mtCursor, xsState := t.xsState } := by
  rcases draw_cases h with ⟨_, _, _, _, _, _, rfl⟩ | ⟨_, _, _, _, rfl⟩ <;> rfl

/-- A draw keeps the invariant under a configuration that fits (40_capability.md R104). -/
theorem State.CommandInv.draw {c : Config} (hc : c.Fits) {s t : State} {r : Word} (h : s.CommandInv)
    (hd : draw c s = .ok (r, t)) : t.CommandInv := by
  have hv : t.variant = s.variant := by rw [draw_frame hd]
  refine h.of_generator (generatorHeld_draw (s := s) hc h.completes.generatorHeld hd) ?_ ?_
  · rw [hv]
    exact h.completes.dieHasGenerator
  · rw [hv]
    exact draw_frame hd

/-- Every command keeps the invariant under a configuration that fits. -/
theorem State.CommandInv.execUnder {c : Config} (hc : c.Fits) {i : Instr} {s t : State} (h : s.CommandInv)
    (he : execUnder c i s = .next t) : t.CommandInv := by
  rcases execUnder_cases c i s with ⟨f, hx⟩ | ⟨e, seed, _, hx | ⟨n, hx⟩⟩ | ⟨f, _, _, hx⟩ | ⟨_, _, _, hx⟩ <;>
    rw [hx] at he
  · cases he
    exact h.raise f
  · cases he
    exact (h.seedGenerator hc e seed).dropDie
  · cases he
    exact (h.seedGenerator hc e seed).holdDie (generatorHeld_seedGenerator hc e seed s).2 n
  · obtain ⟨r, u, hd, rfl⟩ := returnDraw_cases he
    exact (h.draw hc hd).writeRes _
  · cases he

/-! ### The invariant over a step -/

/-- The command step keeps the invariant under a configuration that fits. -/
theorem State.Inv.runCommandUnder {c : Config} (hc : c.Fits) {p : Ports} {s t : State} (h : s.Inv)
    (hr : s.resetPin = false) (hx : runCommandWith (execUnder c) p s = .next t) : t.Inv := by
  rcases runCommandWith_cases hx with ⟨_, rfl⟩ | ⟨e, _, _, rfl⟩ | ⟨i, u, _, _, hu, rfl⟩
  · exact h
  · exact ((h.accept hr p).raise .illegalCommand).completes
  · exact ((h.accept hr p).execUnder hc hu).completes

/-- Every move of the host keeps the invariant under a configuration that fits. -/
theorem State.Inv.acceptMoveUnder {c : Config} (hc : c.Fits) {m : HostMove} {s t : State} (h : s.Inv)
    (hm : acceptMoveWith (execUnder c) m s = .next t) : t.Inv := by
  rcases acceptMoveWith_cases hm with ⟨_, _, _, rfl⟩ | ⟨p, _, hr, hx⟩ | ⟨_, rfl⟩ | ⟨_, rfl⟩ | ⟨_, rfl⟩ |
    ⟨v, _, _, rfl⟩ | ⟨_, rfl⟩ | ⟨_, rfl⟩
  · exact h
  · exact h.runCommandUnder hc hr hx
  · exact inv_resetUnit _
  · exact h.driveReset_low
  · exact inv_resetUnit s
  · exact h.reply _
  · exact h.reply _
  · exact h.reply _

/-- Every step keeps the invariant under a configuration that fits. -/
theorem State.Inv.stepUnder {c : Config} (hc : c.Fits) {s t : State} (h : s.Inv)
    (ht : stepUnder c s = .next t) : t.Inv := by
  cases hi : s.inbox with
  | nil =>
    obtain rfl := Host.Outcome.next.inj ((stepWith_wait _ hi).symm.trans ht)
    exact h.holdInReset
  | cons m rest => exact (h.setInbox rest).holdInReset.acceptMoveUnder hc ((stepWith_move _ hi).symm.trans ht)

/-! ### The obligations -/

/-- Settles O55: no part of a step breaks the invariant, be it holding in reset, a move of the host, or a command,
whose draws stay within the state vector because the configuration fits. -/
theorem everyConfigurationKeepsTheInvariant : Obligations.EveryConfigurationKeepsTheInvariant :=
  fun _ hc _ _ hs ht => hs.stepUnder hc ht

/-- Settles O54: `exec` and `step` are the parametric machine at `Config.unit`, which is the normative record. -/
theorem theUnitIsTheMachineUnderTheNormativeConfiguration :
    Obligations.TheUnitIsTheMachineUnderTheNormativeConfiguration :=
  ⟨step_eq_stepUnder, exec_eq_execUnder, rfl, Config.fits_unit⟩

end Sys2Proof.Machine
end

/-! PROOFS of the family 10_state: every step of this unit keeps the invariant, which reset meets; from it the
unit stops only on a read of `RES` that holds no value; `STATUS` and the host's reads show the registers; and
which steps change `VARIANT`, the die and `RES`. -/

section
namespace Sys2Proof.Machine

/-! ### STATUS and the host's reads -/

/-- The fields of a word laid out as `STATUS` is (10_state.md R30), `n` reserved bits on top. -/
theorem fields_append {n : Nat} (r : BitVec n) (resValid dieValid fault : Bool) (v : BitVec 2) (c : BitVec 4)
    {x : BitVec (n + 12)}
    (hx : x = r ++ BitVec.ofBool resValid ++ BitVec.ofBool dieValid ++ v ++ c ++ 0#3 ++ BitVec.ofBool fault) :
    x.getLsbD 0 = fault ∧ x.extractLsb' 1 3 = 0#3 ∧ x.extractLsb' 4 4 = c ∧ x.extractLsb' 8 2 = v ∧
    x.getLsbD 10 = dieValid ∧ x.getLsbD 11 = resValid ∧ x.extractLsb' 12 n = r := by
  subst hx
  simp [BitVec.getElem_append, BitVec.extractLsb'_append_eq_of_le, BitVec.extractLsb'_append_eq_right]

/-- Every field of `STATUS` at its bits (10_state.md R30). -/
theorem status_fields (s : State) :
    s.status.getLsbD 0 = s.fault ∧ s.status.extractLsb' 1 3 = 0#3 ∧
    s.status.extractLsb' 4 4 = s.cause ∧ s.status.extractLsb' 8 2 = s.variant.code ∧
    s.status.getLsbD 10 = s.dieValid ∧ s.status.getLsbD 11 = s.resValid ∧
    s.status.extractLsb' 12 20 = 0#20 :=
  fields_append 0#20 s.resValid s.dieValid s.fault s.variant.code s.cause rfl

/-- A read of `RES` that holds a value (10_state.md R29). -/
theorem readRes_valid {s : State} {v : Word} (h : s.resValid = true) (hv : s.res = some v) :
    s.readRes = .ok v := by
  simp [State.readRes, h, hv]

/-- A read of `RES` while `RES_VALID = 0` (10_state.md R29). -/
theorem readRes_invalid {s : State} (h : s.resValid = false) : s.readRes = .error .resHoldsNoValue := by
  simp [State.readRes, h]

/-- With `RESET` low a step is the unit's answer to the first pending move. -/
theorem step_move_low {s : State} {m : HostMove} {rest : List HostMove} (h : s.inbox = m :: rest)
    (hr : s.resetPin = false) : step s = acceptMove m (s.setInbox rest) :=
  (step_move h).trans (congrArg (acceptMove m) (holdInReset_low hr))

/-- The answer to a read of `RES` that holds a value. -/
theorem acceptMove_readRes_valid {s : State} {v : Word} (h : s.resValid = true) (hv : s.res = some v) :
    acceptMove .readRes s = .next (s.reply (.res v)) := by
  simp [acceptMove, acceptMoveWith, readRes_valid h hv]

/-- The answer to a read of `RES` while `RES_VALID = 0`. -/
theorem acceptMove_readRes_invalid {s : State} (h : s.resValid = false) :
    acceptMove .readRes s = .fault .resHoldsNoValue := by
  simp [acceptMove, acceptMoveWith, readRes_invalid h]

/-! ### From the invariant the unit answers -/

/-- In a state that meets the invariant, `RESET` high has nothing left to reset (70_reset_and_hazards.md R260). -/
theorem State.Inv.holdInReset_eq {s : State} (h : s.Inv) : s.holdInReset = s := by
  cases hr : s.resetPin with
  | false => exact holdInReset_low hr
  | true => exact (holdInReset_high hr).trans (h.heldInReset hr).symm

/-- A command reads no register that holds no value: not the generator's when `VARIANT` names one, nor `SIDES`
when `DIE_VALID` is 1 (10_state.md R24, R26). -/
theorem exec_answers (i : Instr) {s : State} (hg : s.GeneratorHeld) (hs : s.sides.isSome = s.dieValid) :
    ∃ t, exec i s = .next t := by
  rcases exec_cases i s with ⟨f, hx⟩ | ⟨e, seed, _, hx | ⟨n, hx⟩⟩ | ⟨f, _, hv, hx⟩ | ⟨_, hd, hn, _⟩
  · exact ⟨_, hx⟩
  · exact ⟨_, hx⟩
  · exact ⟨_, hx⟩
  · obtain ⟨r, u, hd⟩ := draw_answers Config.unit hg hv
    exact ⟨_, hx.trans (returnDraw_ok f hd)⟩
  · simp [hd, hn] at hs

/-- From the invariant the unit executes any command it accepts. -/
theorem State.Inv.exec_accept {s : State} (h : s.Inv) (i : Instr) (p : Ports) :
    ∃ t, exec i (s.accept p) = .next t :=
  exec_answers (s := s.accept p) i h.generatorHeld h.sidesHeld

/-- From the invariant the command step answers, whatever the word. -/
theorem State.Inv.runCommand_answers {s : State} (h : s.Inv) (p : Ports) : ∃ t, runCommand p s = .next t := by
  cases hf : s.fault with
  | true => exact ⟨s, runCommand_halted p hf⟩
  | false =>
    cases hd : decode p.cmd with
    | error e => exact ⟨_, runCommand_illegal p hf hd⟩
    | ok i =>
      obtain ⟨t, ht⟩ := h.exec_accept i p
      exact ⟨t.release, (runCommand_legal p hf hd).trans (congrArg (mapNext State.release) ht)⟩

/-- From the invariant every move but a read of `RES` answers, and that read too while `RES_VALID = 1`. -/
theorem State.Inv.acceptMove_answers {s : State} (h : s.Inv) (m : HostMove) :
    (∃ t, acceptMove m s = .next t) ∨
    (m = .readRes ∧ s.resValid = false ∧ acceptMove m s = .fault .resHoldsNoValue) := by
  cases m with
  | issue p =>
    cases hr : s.resetPin with
    | true => exact .inl ⟨s, by simp [acceptMove, acceptMoveWith, hr]⟩
    | false =>
      obtain ⟨t, ht⟩ := h.runCommand_answers p
      exact .inl ⟨t, by simpa [acceptMove, acceptMoveWith, hr, runCommand] using ht⟩
  | readRes =>
    cases hv : s.resValid with
    | false => exact .inr ⟨rfl, rfl, acceptMove_readRes_invalid hv⟩
    | true =>
      obtain ⟨v, hres⟩ := Option.isSome_iff_exists.mp (h.resHeld.trans hv)
      exact .inl ⟨_, acceptMove_readRes_valid hv hres⟩
  | assertReset | releaseReset | powerCycle | readStatus | readFaultCmd => exact .inl ⟨_, rfl⟩

/-- From the invariant every step answers but one: a read of `RES` while `RES_VALID = 0`. -/
theorem State.Inv.step_answers {s : State} (h : s.Inv) :
    (∃ t, step s = .next t) ∨
    (∃ rest, s.inbox = .readRes :: rest ∧ s.resValid = false ∧ step s = .fault .resHoldsNoValue) := by
  cases hi : s.inbox with
  | nil => exact .inl ⟨_, step_wait hi⟩
  | cons m rest =>
    have hstep : step s = acceptMove m (s.setInbox rest) :=
      (step_move hi).trans (congrArg (acceptMove m) (h.setInbox rest).holdInReset_eq)
    rw [hstep]
    rcases (h.setInbox rest).acceptMove_answers m with ht | ⟨rfl, hv, hf⟩
    · exact .inl ht
    · exact .inr ⟨rest, rfl, hv, hf⟩

/-- A generator that holds its own variant's state has a draw, as the engines' rules give it (40_capability.md
R104). -/
theorem drawsValue_of_generatorHeld {s : State} (hg : s.GeneratorHeld) (hv : s.variant ≠ .none) :
    ∃ r t, drawsValue s r t := by
  cases h : s.variant with
  | none => exact absurd h hv
  | mt =>
    simp only [State.GeneratorHeld, h] at hg
    obtain ⟨⟨v, k, hw, hk, hle⟩, _⟩ := hg
    exact ⟨_, _, .inl ⟨v, k, ⟨h, hw, hk, hle⟩, rfl, rfl⟩⟩
  | xs =>
    simp only [State.GeneratorHeld, h] at hg
    obtain ⟨_, _, x, hx⟩ := hg
    exact ⟨_, _, .inr ⟨x, ⟨h, hx⟩, rfl, rfl⟩⟩

/-! ### Which steps change which registers -/

/-- The pending command, spelled out: what stands first in the inbox, on a unit that will execute it. -/
theorem pendingCommand_eq_some {s : State} {i : Instr} (h : s.pendingCommand = some i) :
    ∃ p rest, s.inbox = .issue p :: rest ∧ s.resetPin = false ∧ s.fault = false ∧ decode p.cmd = .ok i := by
  unfold State.pendingCommand at h
  split at h
  · rename_i p rest hi
    split at h
    · cases h
    · rename_i hlow
      split at h
      · rename_i j hd
        cases h
        simp only [Bool.or_eq_true, not_or, Bool.not_eq_true] at hlow
        exact ⟨p, rest, hi, hlow.1, hlow.2, hd⟩
      · cases h
  · cases h

/-- A word that decodes, presented to a unit that is not halted while `RESET` is low, is the pending command. -/
theorem pendingCommand_of_issue {s : State} {p : Ports} {rest : List HostMove} {i : Instr}
    (h : s.inbox = .issue p :: rest) (hr : s.resetPin = false) (hf : s.fault = false)
    (hd : decode p.cmd = .ok i) : s.pendingCommand = some i := by
  simp [State.pendingCommand, h, hr, hf, hd]

/-- A step with a pending command executes it, on the ports sampled with it. -/
theorem step_pendingCommand {s t : State} {i : Instr} (h : s.pendingCommand = some i) (ht : step s = .next t) :
    ∃ p rest u, exec i ((s.setInbox rest).accept p) = .next u ∧ s.fault = false ∧ t = u.release := by
  obtain ⟨p, rest, hi, hr, hf, hd⟩ := pendingCommand_eq_some h
  rw [step_issue hi hr, runCommand_legal (s := s.setInbox rest) p hf hd] at ht
  obtain ⟨u, hu, rfl⟩ := mapNext_eq_next ht
  exact ⟨p, rest, u, hu, hf, rfl⟩

/-- A step that executes no command and does not reset the unit writes only the fault record (an illegal word,
30_encoding.md R80) and the host's side. -/
theorem step_noCommand {s t : State} (h : s.pendingCommand = none) (hr : s.resetPin = false)
    (ht : step s = .next t) :
    (∃ rest, s.inbox = .assertReset :: rest) ∨ (∃ rest, s.inbox = .powerCycle :: rest) ∨
    t = { s with
      fault := t.fault, cause := t.cause, faultCmd := t.faultCmd
      resetPin := t.resetPin, ports := t.ports, inbox := t.inbox, hostRead := t.hostRead } := by
  cases hi : s.inbox with
  | nil =>
    rw [step_wait hi, holdInReset_low hr] at ht
    cases ht
    exact .inr (.inr rfl)
  | cons m rest =>
    rw [step_move_low hi hr] at ht
    rcases acceptMoveWith_cases ht with ⟨_, _, _, rfl⟩ | ⟨p, rfl, _, hx⟩ | ⟨rfl, _⟩ | ⟨_, rfl⟩ | ⟨rfl, _⟩ |
      ⟨_, _, _, rfl⟩ | ⟨_, rfl⟩ | ⟨_, rfl⟩
    · exact .inr (.inr rfl)
    · rcases runCommandWith_cases hx with ⟨_, rfl⟩ | ⟨_, _, _, rfl⟩ | ⟨i, _, hf, hd, _⟩
      · exact .inr (.inr rfl)
      · exact .inr (.inr rfl)
      · exact nomatch (pendingCommand_of_issue hi hr hf hd).symm.trans h
    · exact .inl ⟨rest, rfl⟩
    · exact .inr (.inr rfl)
    · exact .inr (.inl ⟨rest, rfl⟩)
    · exact .inr (.inr rfl)
    · exact .inr (.inr rfl)
    · exact .inr (.inr rfl)

/-- No command both seeds a generator and draws from one (30_encoding.md R73). -/
theorem draws_eq_false_of_readsSeed {i : Instr} (h : i.format.readsSeed = true) : i.draws = false := by
  revert h
  cases i <;> decide

/-- A command that is no construct leaves `VARIANT` and the die (10_state.md R20, R25, R26). -/
theorem exec_leaves_variant_die {i : Instr} {s t : State} (h : exec i s = .next t) :
    i.format.readsSeed = true ∨ (t.variant = s.variant ∧ t.sides = s.sides ∧ t.dieValid = s.dieValid) := by
  rcases exec_cases i s with ⟨f, hx⟩ | ⟨_, _, hseed, _⟩ | ⟨f, _, _, hx⟩ | ⟨_, _, _, hx⟩
  · rw [hx] at h
    cases h
    exact .inr ⟨rfl, rfl, rfl⟩
  · exact .inl hseed
  · obtain ⟨r, u, hd, rfl⟩ := returnDraw_cases (hx.symm.trans h)
    rw [draw_frame hd]
    exact .inr ⟨rfl, rfl, rfl⟩
  · rw [hx] at h
    cases h

/-- A command either draws, completes and returns its result in `RES`, or it leaves `RES` and, if it is a draw,
has faulted (10_state.md R29). -/
theorem exec_result {i : Instr} {s t : State} (hf : s.fault = false) (h : exec i s = .next t) :
    (i.draws = true ∧ t.fault = false ∧ t.resValid = true ∧ ∃ r, t.res = some r) ∨
    ((i.draws = true → t.fault = true) ∧ t.res = s.res ∧ t.resValid = s.resValid) := by
  rcases exec_cases i s with ⟨f, hx⟩ | ⟨e, seed, hseed, hx⟩ | ⟨f, hdraws, _, hx⟩ | ⟨_, _, _, hx⟩
  · rw [hx] at h
    cases h
    exact .inr ⟨fun _ => rfl, rfl, rfl⟩
  · have hno := draws_eq_false_of_readsSeed hseed
    rcases hx with hx | ⟨n, hx⟩ <;>
    · rw [hx] at h
      cases h
      rw [seedGenerator_frame]
      exact .inr ⟨by simp [hno], rfl, rfl⟩
  · obtain ⟨r, u, hd, rfl⟩ := returnDraw_cases (hx.symm.trans h)
    have hu : u.fault = s.fault := by rw [draw_frame hd]
    exact .inl ⟨hdraws, hu.trans hf, rfl, _, rfl⟩
  · rw [hx] at h
    cases h

/-- What is observed of a step that completes a draw command: the value in `RES` (70_reset_and_hazards.md
R274). -/
theorem observedRes_draw {s t : State} {i : Instr} {r : Word} (h : s.pendingCommand = some i)
    (hd : i.draws = true) (hf : t.fault = false) (hr : t.res = some r) : observedRes s t = [r] := by
  simp [observedRes, h, hd, hf, hr]

/-! ### The obligations -/

/-- Settles O18: the unit's step is the parametric one at a configuration that fits, and that keeps the
invariant. -/
theorem everyStepKeepsTheInvariant : Obligations.EveryStepKeepsTheInvariant :=
  fun s _ hs ht => hs.stepUnder Config.fits_unit ((step_eq_stepUnder s).symm.trans ht)

/-- Settles O17: each field of `STATUS` is read off its layout, and the invariant clears `CAUSE`. -/
theorem statusFieldsMirrorTheRegisters : Obligations.StatusFieldsMirrorTheRegisters := by
  intro s
  obtain ⟨hfault, hlow, hcause, hvariant, hdie, hres, hhigh⟩ := status_fields s
  refine ⟨⟨hfault, hlow, hcause, ?_, hdie, hres, hhigh⟩,
    fun hs hf => hcause.trans (hs.recordClear hf).1⟩
  rw [hvariant]
  cases s.variant <;> rfl

/-- Settles O20: the invariant gives every register that a command reads a value, so only the host's read can
find none. -/
theorem onlyAReadOfAbsentResultStops : Obligations.OnlyAReadOfAbsentResultStops :=
  fun _ hs => hs.step_answers

/-- Settles O21: what a command reads, the invariant says is held, whatever stands on the ports. -/
theorem everyCommandAnswersFromTheInvariant : Obligations.EveryCommandAnswersFromTheInvariant :=
  fun _ hs => ⟨fun p i => hs.exec_accept i p, drawsValue_of_generatorHeld hs.generatorHeld⟩

/-- Settles O34: a step that executes no construct and does not reset the unit keeps the three registers. -/
theorem onlyConstructOrResetChangesVariantAndDie : Obligations.OnlyConstructOrResetChangesVariantAndDie := by
  intro s t ht hr hchange
  cases hp : s.pendingCommand with
  | some i =>
    obtain ⟨p, rest, u, hu, _, rfl⟩ := step_pendingCommand hp ht
    rcases exec_leaves_variant_die hu with hseed | ⟨hv, hs, hd⟩
    · exact .inl ⟨i, rfl, hseed⟩
    · simp [hv, hs, hd] at hchange
  | none =>
    rcases step_noCommand hp hr ht with hreset | hpower | hframe
    · exact .inr (.inl hreset)
    · exact .inr (.inr hpower)
    · rw [hframe] at hchange
      simp at hchange

/-- Settles O35: a step either executes a command, which writes `RES` just when it is a draw that completes, or
resets the unit, or leaves `RES`. -/
theorem onlyACompletedDrawOrResetChangesTheResult : Obligations.OnlyACompletedDrawOrResetChangesTheResult := by
  intro s t ht hr
  cases hp : s.pendingCommand with
  | some i =>
    obtain ⟨p, rest, u, hu, hf, rfl⟩ := step_pendingCommand hp ht
    rcases exec_result (s := (s.setInbox rest).accept p) hf hu with ⟨hd, huf, hv, r, hres⟩ | ⟨hfault, hres, hv⟩
    · refine ⟨fun _ => .inl ⟨i, rfl, hd, huf⟩, fun _ _ _ _ => ⟨hv, r, hres, ?_⟩⟩
      exact observedRes_draw hp hd huf hres
    · refine ⟨fun hchange => ?_, fun j hj hd huf => ?_⟩
      · simp [hres, hv] at hchange
      · cases hj
        exact nomatch (hfault hd).symm.trans huf
  | none =>
    refine ⟨fun hchange => .inr ?_, fun _ hj => nomatch hj⟩
    rcases step_noCommand hp hr ht with hreset | hpower | hframe
    · exact .inl hreset
    · exact .inr hpower
    · rw [hframe] at hchange
      simp at hchange

/-- Settles O15: the table of the reset values, register by register, and `STATUS` computed from them. -/
theorem resetStateHoldsTheTableValues : Obligations.ResetStateHoldsTheTableValues :=
  ⟨rfl, rfl, rfl, rfl, rfl, rfl, rfl, rfl, rfl, rfl, rfl, rfl⟩

/-- Settles O16: a read's answer is the register, kept on the host's side. -/
theorem hostReadsHandBackTheRegister : Obligations.HostReadsHandBackTheRegister := by
  intro s rest hr
  refine ⟨fun hi => step_move_low hi hr, fun hi => step_move_low hi hr, fun v hi hv hres => ?_, fun hi hv => ?_⟩
  · exact (step_move_low hi hr).trans (acceptMove_readRes_valid hv hres)
  · exact (step_move_low hi hr).trans (acceptMove_readRes_invalid hv)

/-- Settles O19: the state after reset is a unit that was just reset. -/
theorem resetMeetsTheInvariant : Obligations.ResetMeetsTheInvariant := inv_resetUnit State.reset

end Sys2Proof.Machine
end

/-! PROOFS of the family 20_memory: the unit fetches nothing, so the command of a table word is run next because
`withFetchWord` puts it first among the host's moves. -/

section
namespace Sys2Proof.Machine

/-- A table word stands for the command that its word on the port `CMD` decodes to (30_encoding.md R71). -/
theorem decodeTableWord_eq_some_iff {nbits w : Nat} {i : Instr} :
    decodeTableWord nbits w = some i ↔ decode (portsOfWord nbits w).cmd = .ok i := by
  rw [decodeTableWord, portsOfWord]
  cases decode (BitVec.ofNat 32 (w % 2 ^ nbits)) <;> simp

/-- A word of `nbits` bits stands on the port `CMD` whole (20_memory.md R53). -/
theorem portsOfWord_of_lt {nbits w : Nat} (h : w < 2 ^ nbits) :
    portsOfWord nbits w = ⟨BitVec.ofNat 32 w, 0#64, 0#64, 0#64, true⟩ := by
  rw [portsOfWord, Nat.mod_eq_of_lt h]

/-- With a word placed, the next step is its command move: `RESET` is low, and what the host had pending before
is left for later (20_memory.md R62). -/
theorem step_withFetchWord (s : State) (nbits w : Nat) :
    step (s.withFetchWord nbits w) = runCommand (portsOfWord nbits w) (s.driveReset false) :=
  step_issue (s := s.withFetchWord nbits w) rfl rfl

/-- Settles O6: the placed word is the next command move, and a unit that is not halted executes what it decodes
to. -/
theorem placedTableWordIsTheNextCommand : Obligations.PlacedTableWordIsTheNextCommand := by
  intro s w i hw hf hd
  have hlegal := decodeTableWord_eq_some_iff.mp hd
  rw [step_withFetchWord, runCommand_legal (s := s.driveReset false) _ hf hlegal, portsOfWord_of_lt hw]
  rfl

end Sys2Proof.Machine
end

/-! PROOFS of the family 30_encoding: decoding and encoding are inverse to each other over the legal words, which
are the rows of the table; every other word is on R80's list and raises `IllegalCommand`; a port that a command's
format does not read has no effect; and what the assembler makes of a command and of a pseudo-instruction. -/

section
namespace Sys2Proof

/-! ### The commands in families, and what a family's words and formats are -/

/-- The field `V` that names a variant (30_encoding.md R76). -/
def Engine.code : Engine → BitVec 2
  | .mt => 0b01
  | .xs => 0b10

/-- The field `S` that names a shape (30_encoding.md R77). -/
def Shape.field (sh : Shape) : BitVec 3 := BitVec.ofNat 3 sh.code

/-- The 22 commands, the constructs by their variant and shape (30_encoding.md R75): an argument about the
commands is one about these seven families. -/
theorem Instr.families {motive : Instr → Prop} (construct : ∀ e, motive (constructOf e))
    (next : motive .next) (nextb : motive .nextb) (nextb0 : motive .nextb0)
    (die : ∀ e, motive (dieOf e)) (dieFixed : ∀ e sh, motive (dieFixedOf e sh)) (roll : motive .roll) :
    ∀ i, motive i
  | .constructMt => construct .mt
  | .constructXs => construct .xs
  | .next => next
  | .nextb => nextb
  | .nextb0 => nextb0
  | .dieMt => die .mt
  | .dieXs => die .xs
  | .dieMtD4 => dieFixed .mt .d4
  | .dieMtD6 => dieFixed .mt .d6
  | .dieMtD8 => dieFixed .mt .d8
  | .dieMtD10 => dieFixed .mt .d10
  | .dieMtD12 => dieFixed .mt .d12
  | .dieMtD20 => dieFixed .mt .d20
  | .dieMtD100 => dieFixed .mt .d100
  | .dieXsD4 => dieFixed .xs .d4
  | .dieXsD6 => dieFixed .xs .d6
  | .dieXsD8 => dieFixed .xs .d8
  | .dieXsD10 => dieFixed .xs .d10
  | .dieXsD12 => dieFixed .xs .d12
  | .dieXsD20 => dieFixed .xs .d20
  | .dieXsD100 => dieFixed .xs .d100
  | .roll => roll

@[simp] theorem format_constructOf (e : Engine) : (constructOf e).format = .fv := by cases e <;> rfl
@[simp] theorem format_dieOf (e : Engine) : (dieOf e).format = .fva := by cases e <;> rfl
@[simp] theorem format_dieFixedOf (e : Engine) (sh : Shape) : (dieFixedOf e sh).format = .fvs := by
  cases e <;> cases sh <;> rfl

theorem encodeFields_constructOf (e : Engine) : encodeFields (constructOf e) = ⟨0x01, e.code, 0, 0⟩ := by
  cases e <;> rfl

theorem encodeFields_dieOf (e : Engine) : encodeFields (dieOf e) = ⟨0x05, e.code, 0, 0⟩ := by
  cases e <;> rfl

theorem encodeFields_dieFixedOf (e : Engine) (sh : Shape) :
    encodeFields (dieFixedOf e sh) = ⟨0x06, e.code, sh.field, 0⟩ := by
  cases e <;> cases sh <;> rfl

/-! ### A word is its four fields -/

/-- The fields of 30_encoding.md R72 cover the word: none of its bits is dropped. -/
theorem packFields_fieldsOf (w : CmdWord) : packFields (fieldsOf w) = w := by
  apply BitVec.eq_of_getLsbD_eq
  intro i hi
  simp only [packFields, fieldsOf, BitVec.getLsbD_or, BitVec.getLsbD_setWidth, BitVec.getLsbD_shiftLeft,
    BitVec.getLsbD_extractLsb']
  grind

/-- The fields of 30_encoding.md R72 do not overlap. -/
theorem fieldsOf_packFields (f : CommandFields) : fieldsOf (packFields f) = f := by
  obtain ⟨opc, v, s, rsv⟩ := f
  simp only [fieldsOf, packFields, CommandFields.mk.injEq]
  refine ⟨?_, ?_, ?_, ?_⟩ <;> ext i hi <;>
    simp only [BitVec.getElem_extractLsb', BitVec.getLsbD_or, BitVec.getLsbD_setWidth, BitVec.getLsbD_shiftLeft] <;>
    grind

/-! ### What decodes -/

theorem engineOf_eq_ok_iff {v : BitVec 2} {e : Engine} : engineOf v = .ok e ↔ v = e.code := by
  cases e <;> revert v <;> decide

theorem shapeOf_eq_ok_iff {s : BitVec 3} {sh : Shape} : shapeOf s = .ok sh ↔ s = sh.field := by
  cases sh <;> revert s <;> decide

/-- A command without `V` and `S` decodes only with both 0. -/
theorem plainCommand_eq_ok {f : CommandFields} {i j : Instr} (h : plainCommand f i = .ok j) :
    f.v = 0#2 ∧ f.s = 0#3 ∧ j = i := by
  unfold plainCommand at h
  split_ifs at h with hv hs
  cases h
  exact ⟨not_not.mp hv, not_not.mp hs, rfl⟩

/-- A command with `V` and without `S` decodes only with a variant in `V` and `S` 0. -/
theorem variantCommand_eq_ok {f : CommandFields} {c : Engine → Instr} {j : Instr}
    (h : variantCommand f c = .ok j) : ∃ e : Engine, f.v = e.code ∧ f.s = 0#3 ∧ j = c e := by
  unfold variantCommand at h
  split at h
  · cases h
  · rename_i e he
    split_ifs at h with hs
    cases h
    exact ⟨e, engineOf_eq_ok_iff.mp he, not_not.mp hs, rfl⟩

/-- DIE.Dn decodes only with a variant in `V` and a shape in `S`. -/
theorem shapeCommand_eq_ok {f : CommandFields} {j : Instr} (h : shapeCommand f = .ok j) :
    ∃ (e : Engine) (sh : Shape), f.v = e.code ∧ f.s = sh.field ∧ j = dieFixedOf e sh := by
  unfold shapeCommand at h
  split at h
  · cases h
  · cases h
  · rename_i e sh he hs
    cases h
    exact ⟨e, sh, engineOf_eq_ok_iff.mp he, shapeOf_eq_ok_iff.mp hs, rfl⟩

/-- Fields that decode to a command are the command's own, opcode by opcode (30_encoding.md R79). -/
theorem eq_encodeFields_of_decodeFields {f : CommandFields} {i : Instr} (h : decodeFields f = .ok i) :
    f = encodeFields i := by
  obtain ⟨opc, v, s, rsv⟩ := f
  simp only [decodeFields] at h
  split_ifs at h with hrsv h1 h2 h3 h4 h5 h6 h7 <;> obtain rfl := not_not.mp hrsv
  · obtain ⟨e, rfl, rfl, rfl⟩ := variantCommand_eq_ok h
    exact h1 ▸ (encodeFields_constructOf e).symm
  · obtain ⟨rfl, rfl, rfl⟩ := plainCommand_eq_ok h
    exact h2 ▸ rfl
  · obtain ⟨rfl, rfl, rfl⟩ := plainCommand_eq_ok h
    exact h3 ▸ rfl
  · obtain ⟨rfl, rfl, rfl⟩ := plainCommand_eq_ok h
    exact h4 ▸ rfl
  · obtain ⟨e, rfl, rfl, rfl⟩ := variantCommand_eq_ok h
    exact h5 ▸ (encodeFields_dieOf e).symm
  · obtain ⟨e, sh, rfl, rfl, rfl⟩ := shapeCommand_eq_ok h
    exact h6 ▸ (encodeFields_dieFixedOf e sh).symm
  · obtain ⟨rfl, rfl, rfl⟩ := plainCommand_eq_ok h
    exact h7 ▸ rfl

theorem decodeFields_encodeFields (i : Instr) : decodeFields (encodeFields i) = .ok i := by
  cases i <;> rfl

/-- The decoder and the encoder agree on every word (30_encoding.md R79, R87). -/
theorem decode_eq_ok_iff {w : CmdWord} {i : Instr} : decode w = .ok i ↔ w = encode i := by
  constructor
  · intro h
    rw [encode, ← eq_encodeFields_of_decodeFields h, packFields_fieldsOf]
  · rintro rfl
    rw [decode, encode, fieldsOf_packFields, decodeFields_encodeFields]

theorem mem_allInstrs (i : Instr) : i ∈ allInstrs := by
  cases i <;> decide

/-! ### What does not decode -/

theorem engineOf_fails_iff {v : BitVec 2} :
    (∃ x, engineOf v = .error x) ↔ v.toNat = 0 ∨ v.toNat = 3 := by
  unfold engineOf
  split_ifs with h1 h2
  · simp [h1]
  · simp [h2]
  · have hv : v.toNat = 0 ∨ v.toNat = 3 := by bv_omega
    simp [hv]

theorem shapeOf_fails_iff {s : BitVec 3} : (∃ x, shapeOf s = .error x) ↔ s.toNat = 7 := by
  unfold shapeOf
  split_ifs
  iterate 7 simp [*]
  · have hs : s.toNat = 7 := by bv_omega
    simp [hs]

theorem plainCommand_fails_iff {f : CommandFields} {i : Instr} :
    (∃ x, plainCommand f i = .error x) ↔ f.v ≠ 0#2 ∨ f.s ≠ 0#3 := by
  unfold plainCommand
  split_ifs with hv hs <;> simp [*]

theorem variantCommand_fails_iff {f : CommandFields} {c : Engine → Instr} :
    (∃ x, variantCommand f c = .error x) ↔ (f.v.toNat = 0 ∨ f.v.toNat = 3) ∨ f.s ≠ 0#3 := by
  rw [← engineOf_fails_iff]
  cases h : engineOf f.v with
  | error x => simp [variantCommand, h]
  | ok e => by_cases hs : f.s = 0#3 <;> simp [variantCommand, h, hs]

theorem shapeCommand_fails_iff {f : CommandFields} :
    (∃ x, shapeCommand f = .error x) ↔ (f.v.toNat = 0 ∨ f.v.toNat = 3) ∨ f.s.toNat = 7 := by
  rw [← engineOf_fails_iff, ← shapeOf_fails_iff]
  unfold shapeCommand
  split <;> simp [*]

namespace Machine

/-- The list of 30_encoding.md R80 is what the decoder rejects: the reserved bits in any word, and opcode by opcode
the fields that its format takes as they are. -/
theorem decodeFields_fails_iff {f : CommandFields} :
    (∃ x, decodeFields f = .error x) ↔ listedIllegal f.opc.toNat f.v.toNat f.s.toNat f.rsv.toNat := by
  unfold decodeFields listedIllegal
  rcases ne_or_eq f.rsv 0#19 with hrsv | hrsv
  · have hbits : f.rsv.toNat ≠ 0 := by simpa [BitVec.toNat_eq] using hrsv
    simp [hrsv, hbits]
  · rw [if_neg (not_not.mpr hrsv)]
    split_ifs with h1 h2 h3 h4 h5 h6 h7
    · simp [variantCommand_fails_iff, BitVec.toNat_eq, hrsv, h1]
    · simp [plainCommand_fails_iff, BitVec.toNat_eq, hrsv, h2]
    · simp [plainCommand_fails_iff, BitVec.toNat_eq, hrsv, h3]
    · simp [plainCommand_fails_iff, BitVec.toNat_eq, hrsv, h4]
    · simp [variantCommand_fails_iff, BitVec.toNat_eq, hrsv, h5]
    · simp [shapeCommand_fails_iff, hrsv, h6]
    · simp [plainCommand_fails_iff, BitVec.toNat_eq, hrsv, h7]
    · have hopc : f.opc.toNat = 0 ∨ 8 ≤ f.opc.toNat := by bv_omega
      simp [hopc]

theorem isListedIllegal_iff {w : CmdWord} : isListedIllegal w ↔ ∃ x, decode w = .error x :=
  (decodeFields_fails_iff (f := fieldsOf w)).symm

/-! ### The table of legal words -/

/-- Row by row, the table's word is the command's encoding (30_encoding.md R87). -/
theorem legalWordTable_words :
    legalWordTable.map (fun r => (r.word, r.instr)) = allInstrs.map (fun i => (encode i, i)) := rfl

theorem exists_legalRow_iff {w : CmdWord} {i : Instr} :
    (∃ r ∈ legalWordTable, r.word = w ∧ r.instr = i) ↔ w = encode i := by
  calc (∃ r ∈ legalWordTable, r.word = w ∧ r.instr = i)
      ↔ (w, i) ∈ legalWordTable.map (fun r => (r.word, r.instr)) := by simp
    _ ↔ (w, i) ∈ allInstrs.map (fun i => (encode i, i)) := by rw [legalWordTable_words]
    _ ↔ w = encode i := by simp [mem_allInstrs, eq_comm]

/-! ### A command completes alike on ports that differ only where its format does not read

Each operation in turn, executed on the ports `p` and on the ports `q`: once the sampled ports are gone, the two
answers are one. -/

theorem raise_accept_congr (f : Cause) (s : State) {p q : Ports} (hcmd : p.cmd = q.cmd) :
    ((s.accept p).raise f).release = ((s.accept q).raise f).release := by
  simp [State.raise, State.accept, State.release, hcmd]

theorem trap_accept_congr (f : Cause) (s : State) {p q : Ports} (hcmd : p.cmd = q.cmd) :
    mapNext State.release (trap f (s.accept p)) = mapNext State.release (trap f (s.accept q)) :=
  congrArg Host.Outcome.next (raise_accept_congr f s hcmd)

/-- A draw reads no port (40_capability.md R104). -/
theorem draw_accept (c : Config) (s : State) (p : Ports) :
    draw c (s.accept p) = (draw c s).map fun d => (d.1, d.2.accept p) := by
  simp only [draw, State.variant_accept, State.mtWord_accept, State.mtCursor_accept, State.xsState_accept]
  cases s.variant <;> cases s.mtWord <;> cases s.mtCursor <;> cases s.xsState <;> rfl

theorem returnDraw_accept_congr (c : Config) (f : Word → Word) (s : State) (p q : Ports) :
    mapNext State.release (returnDraw c f (s.accept p)) =
      mapNext State.release (returnDraw c f (s.accept q)) := by
  simp only [returnDraw, draw_accept]
  cases draw c s <;> rfl

theorem capturedSeed_accept_congr (s : State) {p q : Ports}
    (hseed : p.seed = q.seed ∧ p.seedValid = q.seedValid) :
    (s.accept p).capturedSeed = (s.accept q).capturedSeed := by
  obtain ⟨hs, hv⟩ := hseed
  rw [State.capturedSeed, State.capturedSeed, State.ports_accept, State.ports_accept, hs, hv]

/-- Seeding takes its seed as an argument and reads no port (40_capability.md R111). -/
theorem seedGenerator_accept (c : Config) (e : Engine) (seed : Word) (s : State) (p : Ports) :
    (s.accept p).seedGenerator c e seed = (s.seedGenerator c e seed).accept p := by
  cases e <;> rfl

theorem constructOp_accept_congr (c : Config) (e : Engine) (s : State) {p q : Ports} (hcmd : p.cmd = q.cmd)
    (hseed : p.seed = q.seed ∧ p.seedValid = q.seedValid) :
    mapNext State.release (constructOp c e (s.accept p)) =
      mapNext State.release (constructOp c e (s.accept q)) := by
  simp only [constructOp, seedGenerator_accept, capturedSeed_accept_congr s hseed]
  cases (s.accept q).capturedSeed with
  | none => exact trap_accept_congr _ s hcmd
  | some seed => rfl

theorem dieOp_accept_congr (c : Config) (e : Engine) (n : Word) (s : State) {p q : Ports}
    (hcmd : p.cmd = q.cmd) (hseed : p.seed = q.seed ∧ p.seedValid = q.seedValid) :
    mapNext State.release (dieOp c e n (s.accept p)) =
      mapNext State.release (dieOp c e n (s.accept q)) := by
  simp only [dieOp, seedGenerator_accept, capturedSeed_accept_congr s hseed]
  cases (s.accept q).capturedSeed with
  | none => exact trap_accept_congr _ s hcmd
  | some seed => rfl

theorem nextOp_accept_congr (c : Config) (s : State) {p q : Ports} (hcmd : p.cmd = q.cmd) :
    mapNext State.release (nextOp c (s.accept p)) = mapNext State.release (nextOp c (s.accept q)) := by
  simp only [nextOp, apply_ite (mapNext State.release)]
  exact if_congr Iff.rfl (trap_accept_congr _ s hcmd) (returnDraw_accept_congr c _ s p q)

theorem nextbOp_accept_congr (c : Config) (s : State) {p q : Ports} (hcmd : p.cmd = q.cmd)
    (hopa : p.opa = q.opa) (hopb : p.opb = q.opb) :
    mapNext State.release (nextbOp c (s.accept p)) = mapNext State.release (nextbOp c (s.accept q)) := by
  have hmin : (s.accept p).nextbMin = (s.accept q).nextbMin := hopa
  have hmax : (s.accept p).nextbMax = (s.accept q).nextbMax := hopb
  rw [nextbOp, nextbOp, hmin, hmax]
  simp only [apply_ite (mapNext State.release)]
  exact if_congr Iff.rfl (trap_accept_congr _ s hcmd) <|
    if_congr Iff.rfl (trap_accept_congr _ s hcmd) <|
      if_congr Iff.rfl (trap_accept_congr _ s hcmd) (returnDraw_accept_congr c _ s p q)

theorem nextb0Op_accept_congr (c : Config) (s : State) {p q : Ports} (hcmd : p.cmd = q.cmd)
    (hopa : p.opa = q.opa) :
    mapNext State.release (nextb0Op c (s.accept p)) = mapNext State.release (nextb0Op c (s.accept q)) := by
  have hmax : (s.accept p).nextb0Max = (s.accept q).nextb0Max := hopa
  rw [nextb0Op, nextb0Op, hmax]
  simp only [apply_ite (mapNext State.release)]
  exact if_congr Iff.rfl (trap_accept_congr _ s hcmd) <|
    if_congr Iff.rfl (trap_accept_congr _ s hcmd) (returnDraw_accept_congr c _ s p q)

theorem rollSides_accept_congr (c : Config) (n : Word) (s : State) {p q : Ports} (hcmd : p.cmd = q.cmd) :
    mapNext State.release (rollSides c n (s.accept p)) =
      mapNext State.release (rollSides c n (s.accept q)) := by
  simp only [rollSides, apply_ite (mapNext State.release)]
  exact if_congr Iff.rfl (trap_accept_congr _ s hcmd) <|
    if_congr Iff.rfl (trap_accept_congr _ s hcmd) (returnDraw_accept_congr c _ s p q)

theorem rollOp_accept_congr (c : Config) (s : State) {p q : Ports} (hcmd : p.cmd = q.cmd) :
    mapNext State.release (rollOp c (s.accept p)) = mapNext State.release (rollOp c (s.accept q)) := by
  simp only [rollOp, apply_ite (mapNext State.release), State.sides_accept]
  refine if_congr Iff.rfl (trap_accept_congr _ s hcmd) (if_congr Iff.rfl (trap_accept_congr _ s hcmd) ?_)
  cases s.sides with
  | none => rfl
  | some n => exact rollSides_accept_congr c n s hcmd

theorem exec_constructOf (e : Engine) (s : State) :
    exec (constructOf e) s = constructOp Config.unit e s := by
  cases e <;> rfl

theorem exec_dieOf (e : Engine) (s : State) : exec (dieOf e) s = dieOp Config.unit e s.dieSides s := by
  cases e <;> rfl

theorem exec_dieFixedOf (e : Engine) (sh : Shape) (s : State) :
    exec (dieFixedOf e sh) s = dieOp Config.unit e (sh.sides Config.unit) s := by
  cases e <;> cases sh <;> rfl

/-- A command reads the ports of its format and no other (30_encoding.md R73, R82). -/
theorem exec_accept_congr (i : Instr) (s : State) {p q : Ports} (h : Ports.agreeOn i.format p q) :
    mapNext State.release (exec i (s.accept p)) = mapNext State.release (exec i (s.accept q)) := by
  obtain ⟨hcmd, hopa, hopb, hseed⟩ := h
  induction i using Instr.families with
  | construct e =>
    rw [format_constructOf] at hseed
    rw [exec_constructOf, exec_constructOf]
    exact constructOp_accept_congr _ e s hcmd (hseed rfl)
  | next => exact nextOp_accept_congr _ s hcmd
  | nextb => exact nextbOp_accept_congr _ s hcmd (hopa rfl) (hopb rfl)
  | nextb0 => exact nextb0Op_accept_congr _ s hcmd (hopa rfl)
  | die e =>
    rw [format_dieOf] at hopa hseed
    have hsides : (s.accept p).dieSides = (s.accept q).dieSides := hopa rfl
    rw [exec_dieOf, exec_dieOf, hsides]
    exact dieOp_accept_congr _ e _ s hcmd (hseed rfl)
  | dieFixed e sh =>
    rw [format_dieFixedOf] at hseed
    rw [exec_dieFixedOf, exec_dieFixedOf]
    exact dieOp_accept_congr _ e _ s hcmd (hseed rfl)
  | roll => exact rollOp_accept_congr _ s hcmd

theorem runCommand_congr_legal (s : State) {p q : Ports} {i : Instr} (hd : decode p.cmd = .ok i)
    (h : Ports.agreeOn i.format p q) : runCommand p s = runCommand q s := by
  cases hf : s.fault with
  | true => rw [runCommand_halted p hf, runCommand_halted q hf]
  | false =>
    rw [runCommand_legal p hf hd, runCommand_legal q hf (h.1 ▸ hd)]
    exact exec_accept_congr i s h

theorem runCommand_congr_illegal (s : State) {p q : Ports} {x : IllegalWord} (hd : decode p.cmd = .error x)
    (hcmd : p.cmd = q.cmd) : runCommand p s = runCommand q s := by
  cases hf : s.fault with
  | true => rw [runCommand_halted p hf, runCommand_halted q hf]
  | false => rw [runCommand_illegal p hf hd, runCommand_illegal q hf (hcmd ▸ hd), raise_accept_congr _ s hcmd]

/-- The answer to a command move: dropped while `RESET` is high (70_reset_and_hazards.md R260). -/
theorem acceptMove_issue (p : Ports) (s : State) :
    acceptMove (.issue p) s = if s.resetPin then .next s else runCommand p s := rfl

/-- A step depends on the ports of a pending command only through the command step. -/
theorem step_issue_congr (s : State) {p q : Ports} (rest : List HostMove)
    (h : ∀ t, runCommand p t = runCommand q t) :
    step (s.setInbox (.issue p :: rest)) = step (s.setInbox (.issue q :: rest)) := by
  rw [step_move rfl, step_move rfl, acceptMove_issue, acceptMove_issue, h]
  rfl

/-! ### The assembler -/

theorem seedPorts_of_readsSeed {i : Instr} (seed : Option Word) (h : i.format.readsSeed = true) :
    (seedPorts i seed).2 = seed.isSome ∧ ∀ q, seed = some q → (seedPorts i seed).1 = q := by
  cases seed <;> simp [seedPorts, h]

theorem seedPorts_of_ignoresSeed {i : Instr} (seed : Option Word) (h : i.format.readsSeed = false) :
    seedPorts i seed = (0#64, false) := by
  simp [seedPorts, h]

/-- Everything an assembled command is, format by format (30_encoding.md R78, R84). -/
theorem assembleCommand_eq_some {i : Instr} {operands : List Word} {seed : Option Word} {p : Ports}
    (h : assembleCommand i operands seed = some p) :
    p.cmd = encode i ∧ (p.seed, p.seedValid) = seedPorts i seed ∧
    operands = (if i.format.readsOpa then [p.opa] else []) ++ (if i.format.readsOpb then [p.opb] else []) ∧
    (i.format.readsOpa = false → p.opa = 0#64) ∧ (i.format.readsOpb = false → p.opb = 0#64) := by
  unfold assembleCommand at h
  split at h <;> cases h <;> simp [*, Format.readsOpa, Format.readsOpb]

/-- Each of the fourteen lines is read as the pseudo-instruction whose variant and shape are its command's. -/
theorem parseLine_dieShapeLines :
    ∀ row ∈ dieShapeLines, ∃ e ∈ [Engine.mt, .xs],
      ∃ sh ∈ [Shape.d4, .d6, .d8, .d10, .d12, .d20, .d100],
        parseLine row.1.toList = some [.dieShape e sh] ∧ dieFixedOf e sh = row.2 := by
  decide

/-! ### The obligations -/

/-- Settles O1: a word is its fields, and the decoder takes the fields of the 22 commands and no others. -/
theorem wordDecodesToCommandIffItIsItsEncoding : Obligations.WordDecodesToCommandIffItIsItsEncoding :=
  fun _ _ => decode_eq_ok_iff

/-- Settles O2: the table lists each command with its encoding, which is the one word that decodes to it. -/
theorem legalWordTableIsExactlyWhatDecodes : Obligations.LegalWordTableIsExactlyWhatDecodes :=
  ⟨fun _ _ => decode_eq_ok_iff.trans exists_legalRow_iff.symm, by decide, rfl⟩

/-- Settles O3: a listed word does not decode, so the command step is the fault entry of `IllegalCommand`. -/
theorem listedIllegalWordsRaiseIllegalCommand : Obligations.ListedIllegalWordsRaiseIllegalCommand := by
  refine ⟨fun _ => isListedIllegal_iff, fun s p rest hi hr hf hp hw => ?_⟩
  obtain ⟨_, hd⟩ := isListedIllegal_iff.mp hw
  rw [step_issue hi hr, runCommand_illegal (s := s.setInbox rest) p hf hd, State.release, ← hp]
  rfl

/-- Settles O7: the command step is the same on both port tuples, in every state it may be run in. -/
theorem ignoredPortsHaveNoEffect : Obligations.IgnoredPortsHaveNoEffect :=
  ⟨fun s _ _ rest _ hd h => step_issue_congr s rest fun t => runCommand_congr_legal t hd h,
   fun s _ _ rest _ hd hcmd => step_issue_congr s rest fun t => runCommand_congr_illegal t hd hcmd⟩

/-- Settles O52: the word is the command's encoding, and the ports are those of its format. -/
theorem assembledCommandPlacesItsOperands : Obligations.AssembledCommandPlacesItsOperands := by
  intro i operands seed p h
  obtain ⟨hcmd, hports, hoperands, hopa, hopb⟩ := assembleCommand_eq_some h
  refine ⟨decode_eq_ok_iff.mpr hcmd, hoperands, hopa, hopb, fun hr => ?_, fun hr => ?_⟩
  · obtain ⟨hseed, hvalid⟩ := Prod.mk.inj hports
    rw [hseed, hvalid]
    exact seedPorts_of_readsSeed seed hr
  · exact Prod.mk.inj (hports.trans (seedPorts_of_ignoresSeed seed hr))

/-- Settles O4: seven of the words are encodings, and the last one's `S` names no shape. -/
theorem writtenOutWordsDecode : Obligations.WrittenOutWordsDecode := by
  refine ⟨?_, ?_, ?_, ?_, ?_, ?_, ?_, rfl⟩ <;> exact decode_eq_ok_iff.mpr rfl

/-- Settles O53: the fourteen lines are read as text, and the expansions are the ones listed. -/
theorem pseudoInstructionsExpand : Obligations.PseudoInstructionsExpand := by
  refine ⟨fun row hrow => ?_, fun e sh => ⟨dieFixedOf e sh, rfl, format_dieFixedOf e sh, ?_, ?_⟩, by decide,
    fun k => ⟨List.length_replicate, fun _ => List.eq_of_mem_replicate⟩, rfl⟩
  · obtain ⟨e, _, sh, _, hparse, hcommand⟩ := parseLine_dieShapeLines row hrow
    exact ⟨_, hparse, congrArg (fun i => [(i, [])]) hcommand⟩
  · rw [encodeFields_dieFixedOf]
    cases e <;> rfl
  · rw [encodeFields_dieFixedOf]
    cases sh <;> rfl

end Machine

end Sys2Proof
end

/-! PROOFS of the family 40_capability: a step runs the decoded command; a construct leaves a generator made of
`SEED` and `V` alone; NEXT, NEXTB and NEXTB0 return one draw, mapped into its range; and what each of them leaves
unchanged. -/

section
namespace Sys2Proof.Machine

/-! ### The eighteen constructs -/

/-- The state that a construct of variant `e` completes in: a fresh generator from `SEED`, and a die of `n` sides
if there is an `n`, else a bare generator (40_capability.md R102, 43_die.md R192). -/
def State.constructed (s : State) (e : Engine) (n : Option Word) : State :=
  { s.seedGenerator Config.unit e s.ports.seed with sides := n, dieValid := n.isSome }

theorem constructOp_valid (e : Engine) {s : State} (h : s.ports.seedValid = true) :
    constructOp Config.unit e s = .next (s.constructed e none) := by
  simp [constructOp, State.capturedSeed, h, State.constructed, State.dropDie]

theorem constructOp_failed (c : Config) (e : Engine) {s : State} (h : s.ports.seedValid = false) :
    constructOp c e s = .next (s.raise .clockError) := by
  simp [constructOp, State.capturedSeed, h, trap]

theorem dieOp_valid (e : Engine) (n : Word) {s : State} (h : s.ports.seedValid = true) :
    dieOp Config.unit e n s = .next (s.constructed e (some n)) := by
  simp [dieOp, State.capturedSeed, h, State.constructed, State.holdDie]

theorem dieOp_failed (c : Config) (e : Engine) (n : Word) {s : State} (h : s.ports.seedValid = false) :
    dieOp c e n s = .next (s.raise .clockError) := by
  simp [dieOp, State.capturedSeed, h, trap]

theorem dieSidesOf_constructOf (e : Engine) (p : Ports) : dieSidesOf (constructOf e) p = none := by
  cases e <;> rfl

theorem dieSidesOf_dieOf (e : Engine) (p : Ports) : dieSidesOf (dieOf e) p = some p.opa := by
  cases e <;> rfl

theorem dieSidesOf_dieFixedOf (e : Engine) (sh : Shape) (p : Ports) :
    dieSidesOf (dieFixedOf e sh) p = some (sh.sides Config.unit) := by
  cases e <;> cases sh <;> rfl

/-- The sides that a command gives its die depend on `OPA` only where its format reads it. -/
theorem dieSidesOf_congr {i : Instr} {p q : Ports} (h : i.format.readsOpa = true → p.opa = q.opa) :
    dieSidesOf i p = dieSidesOf i q := by
  induction i using Instr.families with
  | construct e => rw [dieSidesOf_constructOf, dieSidesOf_constructOf]
  | die e =>
    rw [format_dieOf] at h
    rw [dieSidesOf_dieOf, dieSidesOf_dieOf, h rfl]
  | dieFixed e sh => rw [dieSidesOf_dieFixedOf, dieSidesOf_dieFixedOf]
  | next | nextb | nextb0 | roll => rfl

/-- Whether a command builds a die does not depend on the ports. -/
theorem isSome_dieSidesOf_congr (i : Instr) (p q : Ports) :
    (dieSidesOf i p).isSome = (dieSidesOf i q).isSome := by
  unfold dieSidesOf
  split_ifs <;> rfl

/-- A construct with a seed builds the generator that its `V` names, and its die. -/
theorem exec_construct_valid {i : Instr} (h : i.format.readsSeed = true) :
    ∃ e : Engine, (encodeFields i).v = e.code ∧
      ∀ s : State, s.ports.seedValid = true → exec i s = .next (s.constructed e (dieSidesOf i s.ports)) := by
  induction i using Instr.families with
  | construct e =>
    refine ⟨e, by rw [encodeFields_constructOf], fun s hv => ?_⟩
    rw [exec_constructOf, dieSidesOf_constructOf, constructOp_valid e hv]
  | die e =>
    refine ⟨e, by rw [encodeFields_dieOf], fun s hv => ?_⟩
    rw [exec_dieOf, dieSidesOf_dieOf, dieOp_valid e _ hv]
    rfl
  | dieFixed e sh =>
    refine ⟨e, by rw [encodeFields_dieFixedOf], fun s hv => ?_⟩
    rw [exec_dieFixedOf, dieSidesOf_dieFixedOf, dieOp_valid e _ hv]
  | next | nextb | nextb0 | roll => cases h

/-- A construct without a seed raises `ClockError`. -/
theorem exec_construct_failed {i : Instr} (h : i.format.readsSeed = true) {s : State}
    (hv : s.ports.seedValid = false) : exec i s = .next (s.raise .clockError) := by
  induction i using Instr.families with
  | construct e => rw [exec_constructOf, constructOp_failed _ e hv]
  | die e => rw [exec_dieOf, dieOp_failed _ e _ hv]
  | dieFixed e sh => rw [exec_dieFixedOf, dieOp_failed _ e _ hv]
  | next | nextb | nextb0 | roll => cases h

/-- The code in `V` names one variant (30_encoding.md R76). -/
theorem engineCode_injective : Function.Injective Engine.code := by
  intro e e'
  cases e <;> cases e' <;> decide

/-! ### One draw, as the engines' rules give it -/

/-- What `MT_Next()` returns and leaves in NeedsTwist (41_mersenne_twister.md R142). -/
theorem mtNext_needsTwist (v : MtVec) :
    mtNextValue Config.unit v 312#9 = mtDrawnValue v 312#9 ∧ readyVec Config.unit v 312#9 = twist Config.unit v ∧
      mtNextCursor Config.unit 312#9 = 1#9 := by
  obtain ⟨hvec, hcursor⟩ := ready_of_needsTwist Config.unit v (k := 312#9) rfl
  refine ⟨?_, hvec, ?_⟩
  · rw [mtNextValue, hvec, hcursor, mtDrawnValue, if_pos rfl]
    rfl
  · rw [mtNextCursor, hcursor]
    rfl

/-- What `MT_Next()` returns and leaves in Ready (41_mersenne_twister.md R142). -/
theorem mtNext_ready (v : MtVec) {k : BitVec 9} (h : k.toNat < 312) :
    mtNextValue Config.unit v k = mtDrawnValue v k ∧ readyVec Config.unit v k = v ∧
      mtNextCursor Config.unit k = k + 1#9 := by
  obtain ⟨hvec, hcursor⟩ := ready_of_lt Config.unit v h
  have hne : k ≠ 312#9 := by bv_omega
  refine ⟨?_, hvec, ?_⟩
  · rw [mtNextValue, hvec, hcursor, mtDrawnValue, if_neg hne]
    rfl
  · rw [mtNextCursor, hcursor]

/-- `Next()` on a Mersenne Twister with its cursor in range is the draw of 41_mersenne_twister.md R142. -/
theorem draw_of_holdsMt {s : State} {v : MtVec} {k : BitVec 9} (h : holdsMt s v k) :
    draw Config.unit s = .ok (mtDrawnValue v k, mtDrawnState v k s) := by
  obtain ⟨hv, hw, hk, hle⟩ := h
  rw [draw_mt Config.unit hv hw hk]
  by_cases h312 : k = 312#9
  · subst h312
    obtain ⟨hvalue, hvec, hcursor⟩ := mtNext_needsTwist v
    rw [hvalue, hvec, hcursor, mtDrawnState, if_pos rfl]
    rfl
  · obtain ⟨hvalue, hvec, hcursor⟩ := mtNext_ready v (k := k) (by bv_omega)
    rw [hvalue, hvec, hcursor, mtDrawnState, if_neg h312, State.writeMt, ← hw]

/-- `Next()` answers every draw that the engines' rules give (40_capability.md R104). -/
theorem draw_of_drawsValue {s t : State} {r : Word} (h : drawsValue s r t) : draw Config.unit s = .ok (r, t) := by
  rcases h with ⟨v, k, hmt, rfl, rfl⟩ | ⟨x, ⟨hv, hx⟩, rfl, rfl⟩
  · exact draw_of_holdsMt hmt
  · exact draw_xs Config.unit hv hx

/-- There is a draw only from a generator. -/
theorem variant_ne_none_of_drawsValue {s t : State} {r : Word} (h : drawsValue s r t) : s.variant ≠ .none := by
  rcases h with ⟨_, _, ⟨hv, _⟩, _⟩ | ⟨_, ⟨hv, _⟩, _⟩ <;> simp [hv]

/-- Returning a draw leaves the state after it, with `RES` written. -/
theorem returnDraw_of_drawsValue {s t : State} {r : Word} (f : Word → Word) (h : drawsValue s r t) :
    returnDraw Config.unit f s = .next { t with res := some (f r), resValid := true } :=
  returnDraw_ok f (draw_of_drawsValue h)

/-- A draw leaves the registers of the engine not held and, in Ready, the state vector (40_capability.md R104,
41_mersenne_twister.md R142). -/
theorem draw_leaves_engine {c : Config} {s t : State} {r : Word} (h : draw c s = .ok (r, t)) :
    (s.variant ≠ .mt → t.mtWord = s.mtWord ∧ t.mtCursor = s.mtCursor) ∧
    (s.variant ≠ .xs → t.xsState = s.xsState) ∧
    (∀ k, s.mtCursor = some k → k.toNat < c.nn → t.mtWord = s.mtWord) := by
  rcases draw_cases h with ⟨v, k, hv, hw, hk, _, rfl⟩ | ⟨x, hv, _, _, rfl⟩
  · refine ⟨fun hne => absurd hv hne, fun _ => rfl, fun k' hk' hlt => ?_⟩
    obtain rfl := Option.some.inj (hk.symm.trans hk')
    rw [State.mtWord_writeMt, (ready_of_lt c v hlt).1, hw]
  · exact ⟨fun _ => ⟨rfl, rfl⟩, fun hne => absurd hv hne, fun _ _ _ => rfl⟩

/-! ### NEXT, NEXTB and NEXTB0, check by check -/

section
variable (c : Config) {s : State}

theorem nextOp_notConstructed (hv : s.variant = .none) : nextOp c s = .next (s.raise .notConstructed) :=
  if_pos hv

theorem nextOp_constructed (hv : s.variant ≠ .none) : nextOp c s = returnDraw c id s :=
  if_neg hv

theorem nextbOp_notConstructed (hv : s.variant = .none) : nextbOp c s = .next (s.raise .notConstructed) :=
  if_pos hv

theorem nextbOp_inverted (hv : s.variant ≠ .none) (h : s.ports.opb < s.ports.opa) :
    nextbOp c s = .next (s.raise .rangeInverted) :=
  (if_neg hv).trans (if_pos h)

theorem nextbOp_empty (hv : s.variant ≠ .none) (h : s.ports.opb = s.ports.opa) :
    nextbOp c s = .next (s.raise .arithmeticError) :=
  (if_neg hv).trans <| (if_neg (BitVec.not_lt.mpr (BitVec.le_of_eq h.symm))).trans (if_pos h)

theorem nextbOp_range (hv : s.variant ≠ .none) (h : s.ports.opa < s.ports.opb) :
    nextbOp c s = returnDraw c (bounded s.ports.opa s.ports.opb) s :=
  (if_neg hv).trans <| (if_neg (BitVec.lt_asymm h)).trans (if_neg (BitVec.ne_of_lt h).symm)

theorem nextb0Op_notConstructed (hv : s.variant = .none) : nextb0Op c s = .next (s.raise .notConstructed) :=
  if_pos hv

theorem nextb0Op_empty (hv : s.variant ≠ .none) (h : s.ports.opa = 0#64) :
    nextb0Op c s = .next (s.raise .arithmeticError) :=
  (if_neg hv).trans (if_pos h)

theorem nextb0Op_range (hv : s.variant ≠ .none) (h : s.ports.opa ≠ 0#64) :
    nextb0Op c s = returnDraw c (bounded 0#64 s.ports.opa) s :=
  (if_neg hv).trans (if_neg h)

end

/-- From 0 the mapping is the remainder (40_capability.md R107). -/
theorem bounded_zero (max r : Word) : bounded 0#64 max r = r % max := by
  simp [bounded]

/-- Returning a draw reads no port and keeps what was sampled. -/
theorem returnDraw_accept (c : Config) (f : Word → Word) (s : State) (p : Ports) :
    returnDraw c f (s.accept p) = mapNext (fun t => t.accept p) (returnDraw c f s) := by
  simp only [returnDraw, draw_accept]
  cases draw c s <;> rfl

/-- NEXTB with the range from 0 to `max` on the ports is NEXTB0 with `max`, check by check; the range from 0 is
never inverted (40_capability.md R107). -/
theorem nextbOp_from_zero (c : Config) (s : State) {p : Ports} (hcmd : p.cmd = s.ports.cmd) (hmin : p.opa = 0#64)
    (hmax : p.opb = s.ports.opa) :
    nextbOp c (s.accept p) = mapNext (fun t => t.accept p) (nextb0Op c s) := by
  have hraise (f : Cause) : (s.accept p).raise f = (s.raise f).accept p := by
    simp [State.raise, State.accept, hcmd]
  rcases nextb0Op_cases c s with ⟨hv, h⟩ | ⟨hv, h0, h⟩ | ⟨hv, h0, h⟩ <;> rw [h]
  · rw [nextbOp_notConstructed c (s := s.accept p) hv, hraise]
    rfl
  · rw [nextbOp_empty c (s := s.accept p) hv (hmax.trans (h0.trans hmin.symm)), hraise]
    rfl
  · have hlt : p.opa < p.opb := by
      rw [hmin, hmax]
      bv_omega
    rw [nextbOp_range c (s := s.accept p) hv hlt, State.ports_accept, hmin, hmax, returnDraw_accept]

/-! ### The obligations -/

/-- Settles O26: one `V` is one variant, whose seeding overwrites the whole generator; a command's die depends on
the ports that its format reads. -/
theorem constructForgetsThePreviousGenerator : Obligations.ConstructForgetsThePreviousGenerator := by
  intro i j s₁ s₂ hi hj hv hseed hv₁ hv₂
  obtain ⟨e, he, hxi⟩ := exec_construct_valid hi
  obtain ⟨e', he', hxj⟩ := exec_construct_valid hj
  obtain rfl : e = e' := engineCode_injective (he.symm.trans (hv.trans he'))
  obtain ⟨hvariant, hword, hcursor, hstate⟩ := seedGenerator_fresh Config.unit e s₁.ports.seed s₁ s₂
  rw [hseed] at hvariant hword hcursor hstate
  refine ⟨_, _, hxi s₁ hv₁, hxj s₂ hv₂, ?_⟩
  rw [State.constructed, State.constructed, hseed]
  refine ⟨hvariant, hword, hcursor, hstate, ?_⟩
  rintro rfl
  exact ⟨isSome_dieSidesOf_congr i s₁.ports s₂.ports, dieSidesOf_congr⟩

/-- Settles O27: a construct completes with the generator and the die written, or faults with the fault record
written. -/
theorem constructFrame : Obligations.ConstructFrame := by
  intro i s t hi ht
  cases hv : s.ports.seedValid with
  | true =>
    obtain ⟨e, _, hx⟩ := exec_construct_valid hi
    obtain rfl := Host.Outcome.next.inj ((hx s hv).symm.trans ht)
    rw [State.constructed, seedGenerator_frame]
    simp
  | false =>
    obtain rfl := Host.Outcome.next.inj ((exec_construct_failed hi hv).symm.trans ht)
    simp

/-- Settles O31: after the same checks both return the draw mapped into the range from 0. -/
theorem nextb0IsNextbFromZero : Obligations.Nextb0IsNextbFromZero :=
  fun s => nextbOp_from_zero Config.unit s rfl rfl rfl

/-- Settles O32: as numbers nothing wraps, and the remainder is below `max - min`. -/
theorem boundedStaysInItsRange : Obligations.BoundedStaysInItsRange := by
  intro min max r h
  have hlt : min.toNat < max.toNat := h
  have hnum := toNat_bounded h r
  have hmod : r.toNat % (max.toNat - min.toNat) < max.toNat - min.toNat := Nat.mod_lt _ (by omega)
  refine ⟨hnum, BitVec.le_def.mpr ?_, BitVec.lt_def.mpr ?_⟩ <;> omega

/-- Settles O33: a draw command faults with the fault record written, or completes with the engine it holds and
`RES` written. -/
theorem drawFrame : Obligations.DrawFrame := by
  intro i s t hi hf ht
  rcases exec_cases i s with ⟨f, hx⟩ | ⟨_, _, hseed, _⟩ | ⟨f, _, _, hx⟩ | ⟨_, _, _, hx⟩
  · obtain rfl := Host.Outcome.next.inj (hx.symm.trans ht)
    simp
  · rw [draws_eq_false_of_readsSeed hseed] at hi
    cases hi
  · obtain ⟨r, u, hd, rfl⟩ := returnDraw_cases (hx.symm.trans ht)
    obtain ⟨hmt, hxs, hready⟩ := draw_leaves_engine hd
    rw [draw_frame hd]
    exact ⟨rfl, rfl, rfl, rfl, rfl, rfl, rfl, hmt, hxs, hready, fun _ => ⟨rfl, rfl⟩,
      fun hfault => nomatch hf.symm.trans hfault⟩
  · cases hx.symm.trans ht

/-- Settles O5: the pending command is accepted and its word decodes, so its instruction is executed. -/
theorem stepRunsTheDecodedCommand : Obligations.StepRunsTheDecodedCommand :=
  fun s p rest _ hi hr hf hd => (step_issue hi hr).trans (runCommand_legal (s := s.setInbox rest) p hf hd)

/-- Settles O22: both are the construct without a die, of the two variants. -/
theorem constructCommandsBuildABareGenerator : Obligations.ConstructCommandsBuildABareGenerator :=
  fun _ => ⟨fun hv => ⟨constructOp_valid .mt hv, constructOp_valid .xs hv⟩,
    fun hv => ⟨constructOp_failed _ .mt hv, constructOp_failed _ .xs hv⟩⟩

/-- Settles O28: a generator's draw is returned as it is. -/
theorem nextReturnsOneDraw : Obligations.NextReturnsOneDraw := by
  refine fun s => ⟨fun r t hd => ?_, fun hv => ?_⟩
  · exact (nextOp_constructed _ (variant_ne_none_of_drawsValue hd)).trans (returnDraw_of_drawsValue id hd)
  · exact nextOp_notConstructed _ hv

/-- Settles O29: the checks in the order of R105, and the mapped draw. -/
theorem nextbReturnsOneBoundedDraw : Obligations.NextbReturnsOneBoundedDraw := by
  refine fun s => ⟨fun r t hd hlt => ?_, fun hv => ?_, fun hv hlt => ?_, fun hv heq => ?_⟩
  · exact (nextbOp_range _ (variant_ne_none_of_drawsValue hd) hlt).trans (returnDraw_of_drawsValue _ hd)
  · exact nextbOp_notConstructed _ hv
  · exact nextbOp_inverted _ hv hlt
  · exact nextbOp_empty _ hv heq

/-- Settles O30: the checks in the order of R107, and the draw's remainder. -/
theorem nextb0ReturnsOneDrawBelowMax : Obligations.Nextb0ReturnsOneDrawBelowMax := by
  refine fun s => ⟨fun r t hd hne => ?_, fun hv => ?_, fun hv h0 => ?_⟩
  · rw [← bounded_zero]
    exact (nextb0Op_range _ (variant_ne_none_of_drawsValue hd) hne).trans (returnDraw_of_drawsValue _ hd)
  · exact nextb0Op_notConstructed _ hv
  · exact nextb0Op_empty _ hv h0

end Sys2Proof.Machine
end

/-! PROOFS of the family 41_mersenne_twister: the seeding pass, the in-place twist word by word, the shape of a
twisted word, the range of a draw, and the cursor along a sequence of draws. -/

section
namespace Sys2Proof.Machine

/-! ### A word masked to its low 31 bits -/

/-- Masking a word to its low 31 bits is 33 zeros before them. -/
theorem and_mask31 (x : Word) : x &&& 0x7FFFFFFF#64 = 0#33 ++ x.setWidth 31 :=
  BitVec.and_setWidth_allOnes 33 31 x

theorem toNat_and_mask31_lt (x : Word) : (x &&& 0x7FFFFFFF#64).toNat < 2 ^ 31 := by
  rw [and_mask31, BitVec.toNat_append]
  simpa using Nat.mod_lt x.toNat (by decide)

theorem and_mask31_inj {x y : Word} :
    x &&& 0x7FFFFFFF#64 = y &&& 0x7FFFFFFF#64 ↔ x.setWidth 31 = y.setWidth 31 := by
  rw [and_mask31, and_mask31]
  exact BitVec.append_right_inj 0#33

theorem high_and_mask31 (x : Word) : (x &&& 0x7FFFFFFF#64).extractLsb' 31 33 = 0#33 := by
  rw [and_mask31]
  exact BitVec.extractLsb'_append_eq_left

/-! ### The seeding pass -/

/-- One iteration of the seeding pass, with the document's literals (41_mersenne_twister.md R134). -/
theorem seedWord_unit (i : Nat) (p : Word) : seedWord Config.unit i p =
    (6364136223846793005#64 * (p ^^^ (p >>> 29)) + BitVec.ofNat 64 i) &&& 0x7FFFFFFF#64 := rfl

/-- Each later word comes from the one before it. -/
theorem word_mtSeed_pos (c : Config) (q : Word) {i : Nat} (h0 : 1 ≤ i) (h : i ≤ 311) :
    (mtSeed c q).word i = seedWord c i ((mtSeed c q).word (i - 1)) := by
  obtain ⟨j, rfl⟩ := Nat.exists_eq_add_of_le' h0
  exact word_mtSeed_succ c q (Nat.lt_succ_of_le h)

/-- The low 31 bits of a product and of a sum depend on the low 31 bits alone (41_mersenne_twister.md R145). -/
theorem seedWord_congr (i : Nat) {p q : Word} (h : seedMix p = seedMix q) :
    seedWord Config.unit i p = seedWord Config.unit i q := by
  rw [seedMix, seedMix, and_mask31_inj] at h
  rw [seedWord_unit, seedWord_unit, and_mask31_inj, BitVec.setWidth_add _ _ (by decide),
    BitVec.setWidth_mul _ _ (by decide), h, ← BitVec.setWidth_mul _ _ (by decide),
    ← BitVec.setWidth_add _ _ (by decide)]

/-- Words 1 to 311 depend on the mixed seed bits alone (41_mersenne_twister.md R145). -/
theorem word_mtSeed_congr {p q : Word} (h : seedMix p = seedMix q) {i : Nat} (h0 : 1 ≤ i) (hi : i ≤ 311) :
    (mtSeed Config.unit p).word i = (mtSeed Config.unit q).word i := by
  induction i, h0 using Nat.le_induction with
  | base => exact seedWord_congr 1 h
  | succ i h0 ih =>
    rw [word_mtSeed_pos _ p (by omega) hi, word_mtSeed_pos _ q (by omega) hi, Nat.add_sub_cancel, ih (by omega)]

/-- The mixed bits are bits 0 to 30 and 29 to 59 of the seed (41_mersenne_twister.md R145). -/
theorem seedMix_congr {p q : Word} (h : ∀ j, j < 60 → p.getLsbD j = q.getLsbD j) : seedMix p = seedMix q := by
  rw [seedMix, seedMix, and_mask31_inj]
  ext j hj
  simp [h j (by omega), h (29 + j) (by omega)]

/-! ### The twist, in place -/

/-- A word whose iteration has run is the new one. -/
theorem word_twistLoop_eq_twist (v : MtVec) {n j : Nat} (hn : n ≤ nn) (hj : j < n) :
    (twistLoop Config.unit n v).word j = (twist Config.unit v).word j :=
  (word_twistLoop_done _ v hn hj).trans (word_twistLoop_done _ v le_rfl (hj.trans_le hn)).symm

/-- The word that iteration `i` writes, from the old vector `v` and the new words `w`, by the table of
41_mersenne_twister.md R137. -/
def twistTableWord (v : MtVec) (w : Nat → Word) (i : Nat) : Word :=
  twistWord Config.unit (v.word i) (if i ≤ 310 then v.word (i + 1) else w 0)
    (if i ≤ 155 then v.word (i + 156) else w (i - 156))

/-- The twisted vector meets R137's table. -/
theorem word_twist (v : MtVec) {i : Nat} (hi : i ≤ 311) :
    (twist Config.unit v).word i = twistTableWord v (twist Config.unit v).word i := by
  have hnn : nn = 312 := rfl
  have hb : (twistLoop Config.unit i v).word (i + 1) =
      if i ≤ 310 then v.word (i + 1) else (twist Config.unit v).word 0 := by
    split_ifs with h
    · exact word_twistLoop_notYet _ v (by omega) (by omega)
    · obtain rfl : i = 311 := by omega
      exact (MtVec.word_add_nn _ 0).trans (word_twistLoop_eq_twist v (by decide) (by decide))
  have hd : (twistLoop Config.unit i v).word (i + 156) =
      if i ≤ 155 then v.word (i + 156) else (twist Config.unit v).word (i - 156) := by
    split_ifs with h
    · exact word_twistLoop_notYet _ v (by omega) (by omega)
    · rw [show i + 156 = i - 156 + nn by omega, MtVec.word_add_nn]
      exact word_twistLoop_eq_twist v (by omega) (by omega)
  rw [← word_twistLoop_eq_twist v (n := i + 1) (by omega) (by omega), twistLoop, word_twistAt_unit,
    word_twistLoop_notYet _ v le_rfl (by omega), hb, hd, twistTableWord]

/-- Iteration `i` reads only those new words that the iterations before it wrote. -/
theorem twistTableWord_congr {v : MtVec} {w w' : Nat → Word} {i : Nat} (hi : i ≤ 311)
    (h : ∀ j, j < i → w j = w' j) : twistTableWord v w i = twistTableWord v w' i := by
  have hb : (if i ≤ 310 then v.word (i + 1) else w 0) = if i ≤ 310 then v.word (i + 1) else w' 0 :=
    ite_congr rfl (fun _ => rfl) fun _ => h 0 (by omega)
  have hd : (if i ≤ 155 then v.word (i + 156) else w (i - 156)) =
      if i ≤ 155 then v.word (i + 156) else w' (i - 156) :=
    ite_congr rfl (fun _ => rfl) fun _ => h (i - 156) (by omega)
  rw [twistTableWord, twistTableWord, hb, hd]

/-- The table determines the twisted words. -/
theorem word_twist_of_table {v : MtVec} {w : Nat → Word} (h : ∀ i, i ≤ 311 → w i = twistTableWord v w i)
    {i : Nat} (hi : i ≤ 311) : (twist Config.unit v).word i = w i := by
  induction i using Nat.strong_induction_on with
  | _ i ih => rw [word_twist v hi, h i hi, twistTableWord_congr hi fun j hj => ih j hj (by omega)]

theorem word_replicate_zero (i : Nat) : MtVec.word (Vector.replicate nn 0#64) i = 0#64 := by
  simp [MtVec.word]

theorem word_twistExample {i : Nat} (hi : i < 312) : twistExample.word i = if i = 1 then 2#64 else 0#64 := by
  split_ifs with h
  · subst h
    exact MtVec.word_setWord_same _ _ rfl
  · rw [twistExample, MtVec.word_setWord_other _ _ (by simp only [nn]; omega), word_replicate_zero]

/-- The words of R137's example after the twist. -/
def twistedExample (i : Nat) : Word :=
  if i = 0 ∨ i = 1 ∨ i = 156 ∨ i = 157 then 0xB5026F5AA96619E8#64
  else if i = 311 then 0x14B30CF4#64 else 0#64

/-- Off the five indices of the example an iteration reads zeros. -/
theorem twistedExample_meets_table (i : Nat) (hi : i ≤ 311) :
    twistedExample i = twistTableWord twistExample twistedExample i := by
  by_cases h : i = 0 ∨ i = 1 ∨ i = 156 ∨ i = 157 ∨ i = 311
  · rcases h with rfl | rfl | rfl | rfl | rfl <;> decide
  · have hb : (if i ≤ 310 then twistExample.word (i + 1) else twistedExample 0) = 0#64 := by
      rw [if_pos (by omega), word_twistExample (by omega), if_neg (by omega)]
    have hd : (if i ≤ 155 then twistExample.word (i + 156) else twistedExample (i - 156)) = 0#64 := by
      split_ifs with hle
      · rw [word_twistExample (by omega), if_neg (by omega)]
      · rw [twistedExample, if_neg (by omega), if_neg (by omega)]
    rw [twistTableWord, hb, hd, word_twistExample (by omega), if_neg (by omega), twistedExample, if_neg (by omega),
      if_neg (by omega)]
    decide

/-! ### The shape of a twisted word (41_mersenne_twister.md R138) -/

/-- A word in the three parts that the twist's masks tell apart: bits 63:32, bit 31 and bits 30:0. -/
theorem append_parts (a : Word) : a.extractLsb' 32 32 ++ a.extractLsb' 31 1 ++ a.extractLsb' 0 31 = a := by
  have hhigh : a.extractLsb' 32 32 ++ a.extractLsb' 31 1 = a.extractLsb' 31 33 :=
    BitVec.extractLsb'_append_extractLsb'_eq_extractLsb' rfl
  rw [hhigh]
  exact (BitVec.extractLsb'_append_extractLsb'_eq_extractLsb' rfl).trans BitVec.extractLsb'_eq_self

/-- `UPPER_MASK` keeps the first and third part, `LOWER_MASK` the third. -/
theorem masked_or_append (h h' : BitVec 32) (m m' : BitVec 1) (l l' : BitVec 31) :
    (h ++ m ++ l &&& BitVec.allOnes 32 ++ 0#1 ++ BitVec.allOnes 31) |||
      (h' ++ m' ++ l' &&& 0#32 ++ 0#1 ++ BitVec.allOnes 31) = h ++ 0#1 ++ (l ||| l') := by
  simp only [BitVec.and_append, BitVec.or_append, BitVec.and_allOnes, BitVec.and_zero, BitVec.or_zero]

/-- `x` of the twist drops bit 31 and ORs the low 31 bits (41_mersenne_twister.md R138). -/
theorem twistX_shape (a b : Word) :
    (a &&& 0xFFFFFFFF7FFFFFFF#64) ||| (b &&& 0x000000007FFFFFFF#64) =
      a.extractLsb' 32 32 ++ 0#1 ++ (a ||| b).extractLsb' 0 31 := by
  conv_lhs => rw [← append_parts a, ← append_parts b]
  rw [BitVec.extractLsb'_or]
  exact masked_or_append _ _ _ _ _ _

/-- The bits of the parts one place further: bit 0 is lost, and each part begins a bit lower. -/
theorem getLsbD_one_add_append (h : BitVec 32) (l : Word) (j : Nat) :
    (h ++ 0#1 ++ l.extractLsb' 0 31).getLsbD (1 + j) = (0#1 ++ h ++ 0#1 ++ l.extractLsb' 1 30).getLsbD j := by
  simp only [BitVec.getLsbD_append, BitVec.getLsbD_extractLsb', BitVec.getLsbD_zero, Nat.zero_add]
  rcases lt_trichotomy j 30 with hj | rfl | hj
  · have hj' : 1 + j < 31 := by omega
    simp only [hj, hj', if_true, decide_true]
  · rfl
  · have hsub : 1 + j - 31 - 1 = j - 30 - 1 := by omega
    rw [if_neg (by omega), if_neg (by omega), if_neg (by omega), if_neg (by omega), hsub]
    split_ifs with h32
    · rfl
    · exact BitVec.getLsbD_of_ge h _ (by omega)

/-- `y` of the twist before the xor with `MATRIX_A` (41_mersenne_twister.md R136). -/
def twistY (a b : Word) : Word := ((a &&& 0xFFFFFFFF7FFFFFFF#64) ||| (b &&& 0x000000007FFFFFFF#64)) >>> 1

/-- `y` is `x` shifted to the right by one bit (41_mersenne_twister.md R138). -/
theorem twistY_shape (a b : Word) :
    twistY a b = 0#1 ++ a.extractLsb' 32 32 ++ 0#1 ++ (a ||| b).extractLsb' 1 30 := by
  rw [twistY, twistX_shape]
  refine BitVec.eq_of_getLsbD_eq fun j _ => ?_
  rw [BitVec.getLsbD_ushiftRight]
  exact getLsbD_one_add_append _ _ j

theorem getLsbD_twistY_zero (a b : Word) : (twistY a b).getLsbD 0 = (a.getLsbD 1 || b.getLsbD 1) := by
  simp [twistY]

/-- The twist's word, its odd test on `y` (41_mersenne_twister.md R133, R136). -/
theorem twistWord_unit (a b d : Word) : twistWord Config.unit a b d =
    d ^^^ (twistY a b ^^^ if (twistY a b).getLsbD 0 then 0xB5026F5AA96619E9#64 else 0#64) := by
  change d ^^^ (if (twistY a b).getLsbD 0 then twistY a b ^^^ 0xB5026F5AA96619E9#64 else twistY a b) = _
  split_ifs
  · rfl
  · rw [BitVec.xor_zero]

/-! ### One draw (41_mersenne_twister.md R141, R142) -/

/-- A draw is a masked word (41_mersenne_twister.md R141). -/
theorem mtDrawnValue_eq_mask (v : MtVec) (k : BitVec 9) : ∃ y, mtDrawnValue v k = y &&& 0x7FFFFFFF#64 := by
  unfold mtDrawnValue
  split_ifs <;> exact ⟨_, rfl⟩

theorem exec_next_of_holdsMt {s : State} {v : MtVec} {k : BitVec 9} (h : holdsMt s v k) :
    exec .next s = .next ((mtDrawnState v k s).writeRes (mtDrawnValue v k)) :=
  (nextReturnsOneDraw s).1 _ _ (.inl ⟨v, k, h, rfl, rfl⟩)

/-- A draw leaves a Mersenne Twister: in Ready with the same vector and the next cursor, in NeedsTwist with the
twisted vector and cursor 1 (41_mersenne_twister.md R142). -/
theorem holdsMt_mtDrawnState {s : State} {v : MtVec} {k : BitVec 9} (h : holdsMt s v k) :
    (k.toNat < 312 ∧ holdsMt (mtDrawnState v k s) v (k + 1#9)) ∨
    (k = 312#9 ∧ holdsMt (mtDrawnState v k s) (twist Config.unit v) 1#9) := by
  obtain ⟨hv, hw, _, hle⟩ := h
  unfold mtDrawnState
  split_ifs with hk
  · exact .inr ⟨hk, hv, rfl, rfl, by decide⟩
  · have hlt : k.toNat < 312 := by bv_omega
    exact .inl ⟨hlt, hv, hw, rfl, by bv_omega⟩

/-! ### Draws from a construct -/

/-- The cursor after `n` draws from a construct: 312 before the first (41_mersenne_twister.md R144). -/
def cursorAfterDraws (n : Nat) : BitVec 9 := BitVec.ofNat 9 ((n + 311) % 312 + 1)

theorem toNat_cursorAfterDraws (n : Nat) : (cursorAfterDraws n).toNat = (n + 311) % 312 + 1 := by
  rw [cursorAfterDraws, BitVec.toNat_ofNat]
  omega

theorem cursorAfterDraws_ready {n : Nat} (h : (cursorAfterDraws n).toNat < 312) :
    cursorAfterDraws n + 1#9 = cursorAfterDraws (n + 1) := by
  have hsucc := toNat_cursorAfterDraws (n + 1)
  have hcur := toNat_cursorAfterDraws n
  bv_omega

theorem cursorAfterDraws_needsTwist {n : Nat} (h : cursorAfterDraws n = 312#9) :
    1#9 = cursorAfterDraws (n + 1) := by
  have hsucc := toNat_cursorAfterDraws (n + 1)
  have hcur := toNat_cursorAfterDraws n
  bv_omega

/-- Returning a value keeps the generator. -/
theorem holdsMt_writeRes {s : State} {v : MtVec} {k : BitVec 9} (h : holdsMt s v k) (r : Word) :
    holdsMt (s.writeRes r) v k := h

/-- One more NEXT moves the cursor to its next place in the count. -/
theorem holdsMt_exec_next {s : State} {v : MtVec} {n : Nat} (h : holdsMt s v (cursorAfterDraws n)) :
    ∃ t w, exec .next s = .next t ∧ holdsMt t w (cursorAfterDraws (n + 1)) := by
  rcases holdsMt_mtDrawnState h with ⟨hlt, ht⟩ | ⟨hk, ht⟩
  · rw [cursorAfterDraws_ready hlt] at ht
    exact ⟨_, v, exec_next_of_holdsMt h, holdsMt_writeRes ht _⟩
  · rw [cursorAfterDraws_needsTwist hk] at ht
    exact ⟨_, twist Config.unit v, exec_next_of_holdsMt h, holdsMt_writeRes ht _⟩

/-- Which draws find the engine in NeedsTwist (41_mersenne_twister.md R143, R144). -/
theorem needsTwist_iff {s : State} {v : MtVec} {n : Nat} (h : holdsMt s v (cursorAfterDraws n)) :
    s.NeedsTwist = true ↔ n % 312 = 0 := by
  obtain ⟨_, _, hcursor, _⟩ := h
  have hcur := toNat_cursorAfterDraws n
  have hneeds : s.NeedsTwist = decide (312 ≤ (cursorAfterDraws n).toNat) := by
    rw [State.NeedsTwist, hcursor]
    rfl
  rw [hneeds, decide_eq_true_iff]
  omega

theorem nextTimes_succ {n : Nat} {s t : State} (h : nextTimes n s = .next t) :
    nextTimes (n + 1) s = exec .next t := by
  simp only [nextTimes, h]

theorem twistsDuring_succ {n : Nat} {s t : State} (h : nextTimes n s = .next t) :
    twistsDuring (n + 1) s = twistsDuring n s + if t.NeedsTwist then 1 else 0 := by
  simp only [twistsDuring, h]

/-- `n` draws from a fresh Mersenne Twister all answer, and `ceil(n / 312)` of them twist. -/
theorem nextTimes_of_holdsMt {s : State} {v : MtVec} (h : holdsMt s v 312#9) (n : Nat) :
    ∃ t w, nextTimes n s = .next t ∧ holdsMt t w (cursorAfterDraws n) ∧ twistsDuring n s = (n + 311) / 312 := by
  induction n with
  | zero => exact ⟨s, v, rfl, h, rfl⟩
  | succ n ih =>
    obtain ⟨t, w, hrun, ht, htwists⟩ := ih
    obtain ⟨u, w', hnext, hu⟩ := holdsMt_exec_next ht
    refine ⟨u, w', (nextTimes_succ hrun).trans hnext, hu, ?_⟩
    rw [twistsDuring_succ hrun, htwists]
    simp only [needsTwist_iff ht]
    split_ifs <;> omega

/-- A construct with variant MT leaves a seeded vector in NeedsTwist (41_mersenne_twister.md R134). -/
theorem holdsMt_construct {i : Instr} {s t : State} (hi : i.format.readsSeed = true)
    (hv : s.ports.seedValid = true) (ht : exec i s = .next t) (hmt : t.variant = .mt) :
    holdsMt t (mtSeed Config.unit s.ports.seed) 312#9 := by
  obtain ⟨e, _, hx⟩ := exec_construct_valid hi
  obtain rfl := Host.Outcome.next.inj ((hx s hv).symm.trans ht)
  cases e with
  | mt => exact ⟨rfl, rfl, rfl, by decide⟩
  | xs => cases hmt

/-! ### The obligations -/

/-- Settles O40: each word comes from the one before it by an iteration of the pass; CONSTRUCT.MT leaves that
vector. -/
theorem seedingPassFillsTheVectorInOrder : Obligations.SeedingPassFillsTheVectorInOrder := by
  refine fun q => ⟨word_mtSeed_zero _ q, fun i h0 h => word_mtSeed_pos _ q h0 h, ?_⟩
  rintro s t rfl hv ht
  obtain rfl := Host.Outcome.next.inj ((constructOp_valid .mt hv).symm.trans ht)
  exact ⟨rfl, rfl⟩

/-- Settles O41: the mask keeps 31 bits, and each iteration depends on 31 bits of what it reads. -/
theorem seededWordsDependOnTheMixedSeedBits : Obligations.SeededWordsDependOnTheMixedSeedBits := by
  refine ⟨fun q i h0 h => ?_, fun _ _ hmix _ h0 h => word_mtSeed_congr hmix h0 h, fun _ _ => seedMix_congr, ?_⟩
  · rw [word_mtSeed_pos _ q h0 h]
    exact toNat_and_mask31_lt _
  · rintro q (rfl | rfl) <;> exact ⟨by decide, by decide, by decide⟩

/-- Settles O42: R137's table determines the twisted words, and the words of its example meet it. -/
theorem twistReadsOldAndNewWordsInPlace : Obligations.TwistReadsOldAndNewWordsInPlace := by
  have hexample {i : Nat} (hi : i ≤ 311) := word_twist_of_table twistedExample_meets_table hi
  refine ⟨fun v i hi => word_twist v hi, fun i hi => hexample hi, ?_⟩
  rintro i (rfl | rfl | rfl) <;> rw [hexample (by decide)] <;> decide

/-- Settles O43: the masks split a word in three parts, and bit 0 of `y` is bit 1 of `a | b`. -/
theorem twistWordHasTheNormativeShape : Obligations.TwistWordHasTheNormativeShape := by
  refine fun a b d => ⟨twistX_shape a b, ?_, by decide, by decide⟩
  rw [twistWord_unit, getLsbD_twistY_zero, twistY_shape]

/-- Settles O44: zero words meet R137's table. -/
theorem zeroVectorTwistsToZero : Obligations.ZeroVectorTwistsToZero := by
  intro v hv
  have htable (i : Nat) (hi : i ≤ 311) : 0#64 = twistTableWord v (fun _ => 0#64) i := by
    rw [twistTableWord, hv i hi, ite_eq_right_iff.mpr fun h => hv _ (by omega),
      ite_eq_right_iff.mpr fun h => hv _ (by omega)]
    decide
  refine MtVec.ext_word fun i hi => ?_
  have hi : i ≤ 311 := Nat.le_of_lt_succ hi
  rw [word_twist_of_table htable hi, hv i hi]

/-- Settles O46: NEXT returns the draw as it is, and the output mask keeps 31 bits. -/
theorem mtDrawFitsThirtyOneBits : Obligations.MtDrawFitsThirtyOneBits := by
  intro s v k h
  refine ⟨_, _, exec_next_of_holdsMt h, rfl, rfl, ?_⟩
  obtain ⟨y, hy⟩ := mtDrawnValue_eq_mask v k
  rw [hy]
  exact ⟨toNat_and_mask31_lt y, high_and_mask31 y⟩

/-- Settles O47: a command raises a fault, builds a generator, or returns one draw. -/
theorem cursorMovesOnlyByOneExtraction : Obligations.CursorMovesOnlyByOneExtraction := by
  intro i s t v k hmt ht
  have ⟨_, hword, hcursor, _⟩ := hmt
  rcases exec_cases i s with ⟨f, hx⟩ | ⟨_, _, hseed, _⟩ | ⟨f, hdraws, _, hx⟩ | ⟨_, _, _, hx⟩
  · obtain rfl := Host.Outcome.next.inj (hx.symm.trans ht)
    exact .inl ⟨hcursor, hword⟩
  · cases hv : s.ports.seedValid with
    | true =>
      obtain ⟨e, _, hx⟩ := exec_construct_valid hseed
      obtain rfl := Host.Outcome.next.inj ((hx s hv).symm.trans ht)
      cases e with
      | mt => exact .inr (.inr (.inr (.inl ⟨hseed, rfl, rfl⟩)))
      | xs => exact .inr (.inr (.inr (.inr ⟨hseed, rfl, rfl⟩)))
    | false =>
      obtain rfl := Host.Outcome.next.inj ((exec_construct_failed hseed hv).symm.trans ht)
      exact .inl ⟨hcursor, hword⟩
  · obtain rfl := Host.Outcome.next.inj ((returnDraw_ok f (draw_of_holdsMt hmt)).symm.trans (hx.symm.trans ht))
    rcases holdsMt_mtDrawnState hmt with ⟨hlt, _, hword, hcursor, _⟩ | ⟨hk, _, hword, hcursor, _⟩
    · exact .inr (.inl ⟨hdraws, hlt, hcursor, hword⟩)
    · exact .inr (.inr (.inl ⟨hdraws, hk, hcursor, hword⟩))
  · cases hx.symm.trans ht

/-- Settles O48: by induction on the draws, each from the cursor that the draws before it left. -/
theorem drawCountFixesCursorAndTwists : Obligations.DrawCountFixesCursorAndTwists := by
  intro i s₀ s hi hv hs hmt n hn
  have hheld := holdsMt_construct hi hv hs hmt
  obtain ⟨t', w', hrun', ht', _⟩ := nextTimes_of_holdsMt hheld (n - 1)
  obtain ⟨t, w, hrun, ⟨_, _, hcursor, _⟩, htwists⟩ := nextTimes_of_holdsMt hheld n
  refine ⟨t', t, hrun', hrun, ?_, ?_, htwists⟩
  · rw [needsTwist_iff ht']
    omega
  · rw [hcursor, cursorAfterDraws, show n + 311 = n - 1 + 312 by omega, Nat.add_mod_right]

/-- Settles O45: the steps are those of the definition, with the document's literals. -/
theorem temperIsTheFourStepCascade : Obligations.TemperIsTheFourStepCascade :=
  ⟨by decide, by decide, fun _ => ⟨_, _, _, rfl, rfl, rfl, rfl⟩⟩

end Sys2Proof.Machine
end

/-! PROOFS of the family 42_xorshift: the update is three xor-shifts, each of them one-to-one, so state 0 is
reached from state 0 alone; and a sequence of draws iterates the update. -/

section
namespace Sys2Proof.Machine

/-! ### A xor-shift is one-to-one -/

section
variable {w : ℕ}

/-- No word but 0 is its own shift to the right: the shift makes the number smaller. -/
theorem eq_zero_of_eq_ushiftRight {n : ℕ} (hn : 0 < n) {d : BitVec w} (h : d = d >>> n) : d = 0#w := by
  by_contra hd
  have hlt : d.toNat >>> n < d.toNat := by
    rw [Nat.shiftRight_eq_div_pow]
    exact Nat.div_lt_self (BitVec.toNat_pos_of_ne_zero hd) (Nat.one_lt_two_pow hn.ne')
  rw [← BitVec.toNat_ushiftRight, ← h] at hlt
  exact hlt.false

/-- No word but 0 is its own shift to the left: each bit is that of a lower place, or 0. -/
theorem eq_zero_of_eq_shiftLeft {n : ℕ} (hn : 0 < n) {d : BitVec w} (h : d = d <<< n) : d = 0#w := by
  refine BitVec.eq_of_getLsbD_eq fun j _ => ?_
  rw [BitVec.getLsbD_zero]
  induction j using Nat.strong_induction_on with
  | _ j ih =>
    rw [h, BitVec.getLsbD_shiftLeft]
    by_cases hj : j < n
    · simp [hj]
    · rw [ih (j - n) (by omega) (by omega), Bool.and_false]

/-- Xoring a word with a linear image of it is one-to-one, if the linear map fixes 0 alone. -/
theorem xor_linear_injective {f : BitVec w → BitVec w} (hlinear : ∀ x y, f (x ^^^ y) = f x ^^^ f y)
    (hfixed : ∀ d, d = f d → d = 0#w) : Function.Injective fun x => x ^^^ f x := by
  intro x y (h : x ^^^ f x = y ^^^ f y)
  rw [← BitVec.xor_eq_zero_iff] at h ⊢
  refine hfixed _ ?_
  rw [hlinear, ← BitVec.xor_eq_zero_iff, ← h]
  ac_rfl

theorem xor_ushiftRight_injective {n : ℕ} (hn : 0 < n) : Function.Injective fun x : BitVec w => x ^^^ (x >>> n) :=
  xor_linear_injective (fun x y => BitVec.ushiftRight_xor_distrib x y n) fun _ => eq_zero_of_eq_ushiftRight hn

theorem xor_shiftLeft_injective {n : ℕ} (hn : 0 < n) : Function.Injective fun x : BitVec w => x ^^^ (x <<< n) :=
  xor_linear_injective (fun x y => BitVec.shiftLeft_xor_distrib x y n) fun _ => eq_zero_of_eq_shiftLeft hn

end

/-! ### The update and the value drawn (42_xorshift.md R171, R174) -/

/-- The engine's update is the rule's, with the document's literals (42_xorshift.md R171). -/
theorem xsStep_unit (x : Word) : xsStep Config.unit x = xsUpdated x := rfl

/-- The engine's value is the rule's, with the document's literals (42_xorshift.md R171). -/
theorem xsNextValue_unit (x : Word) : xsNextValue Config.unit x = xsUpdated x * 0x2545F4914F6CDD1D#64 := rfl

theorem xsUpdated_injective : Function.Injective xsUpdated :=
  (xor_ushiftRight_injective (n := 27) (by decide)).comp <|
    (xor_shiftLeft_injective (n := 25) (by decide)).comp <| xor_ushiftRight_injective (n := 12) (by decide)

theorem xsUpdated_zero : xsUpdated 0#64 = 0#64 := by decide

theorem xsUpdated_eq_zero_iff {x : Word} : xsUpdated x = 0#64 ↔ x = 0#64 :=
  xsUpdated_injective.eq_iff' xsUpdated_zero

/-- The multiplier is odd, so it has an inverse among the words. -/
theorem isUnit_xsMult : IsUnit 0x2545F4914F6CDD1D#64 :=
  IsUnit.of_mul_eq_one 0x59071D96D81ECD35#64 (by decide)

/-- A product with the multiplier is 0 only from 0 (42_xorshift.md R174). -/
theorem mul_xsMult_eq_zero_iff {x : Word} : x * 0x2545F4914F6CDD1D#64 = 0#64 ↔ x = 0#64 :=
  isUnit_xsMult.mul_left_eq_zero

/-! ### Draws -/

/-- NEXT leaves the updated state, unmultiplied, and the product in `RES` (42_xorshift.md R171). -/
theorem exec_next_of_holdsXs {s : State} {x : Word} (h : holdsXs s x) :
    exec .next s = .next { s with
      xsState := some (xsUpdated x)
      res := some (xsUpdated x * 0x2545F4914F6CDD1D#64)
      resValid := true } :=
  (nextReturnsOneDraw s).1 _ _ (.inr ⟨x, h, rfl, rfl⟩)

/-- `n` draws all answer, and leave the update iterated `n` times (42_xorshift.md R175). -/
theorem nextTimes_of_holdsXs {s : State} {q : Word} (h : holdsXs s q) (n : ℕ) :
    ∃ t, nextTimes n s = .next t ∧ holdsXs t (xsUpdated^[n] q) := by
  induction n with
  | zero => exact ⟨s, rfl, h⟩
  | succ n ih =>
    obtain ⟨t, hrun, ht⟩ := ih
    rw [Function.iterate_succ_apply']
    exact ⟨_, (nextTimes_succ hrun).trans (exec_next_of_holdsXs ht), ht.1, rfl⟩

/-- A construct with variant XS leaves the seed as the state (42_xorshift.md R172). -/
theorem holdsXs_construct {i : Instr} {s t : State} (hi : i.format.readsSeed = true)
    (hv : s.ports.seedValid = true) (ht : exec i s = .next t) (hxs : t.variant = .xs) :
    holdsXs t s.ports.seed := by
  obtain ⟨e, _, hx⟩ := exec_construct_valid hi
  obtain rfl := Host.Outcome.next.inj ((hx s hv).symm.trans ht)
  cases e with
  | mt => cases hxs
  | xs => exact ⟨rfl, rfl⟩

/-- In state 0 a draw returns 0 and leaves the unit as it is (42_xorshift.md R174). -/
theorem drawsValue_of_holdsXs_zero {s : State} (h : holdsXs s 0#64) : drawsValue s 0#64 s := by
  refine .inr ⟨0#64, h, by decide, ?_⟩
  rw [xsUpdated_zero, ← h.2]

/-- In state 0 a bounded draw returns the low end of its range and leaves the generator as it is
(42_xorshift.md R174). -/
theorem returnDraw_bounded_of_holdsXs_zero {s : State} (h : holdsXs s 0#64) (min max : Word) :
    returnDraw Config.unit (bounded min max) s = .next { s with res := some min, resValid := true } := by
  rw [returnDraw_of_drawsValue _ (drawsValue_of_holdsXs_zero h), bounded, BitVec.zero_umod, BitVec.add_zero]

/-- ROLL of a die whose sides pass the checks returns one draw, mapped to a face (43_die.md R194). -/
theorem rollOp_faces (c : Config) {s : State} {n : Word} (hv : s.variant ≠ .none) (hd : s.dieValid = true)
    (hs : s.sides = some n) (h0 : n ≠ 0#64) (hmax : n ≠ 0xFFFFFFFFFFFFFFFF#64) :
    rollOp c s = returnDraw c (bounded 1#64 (n + 1#64)) s := by
  have hface : n + 1#64 ≠ 1#64 := by bv_omega
  simp [rollOp, rollSides, hv, hd, hs, hmax, hface]

/-! ### The obligations -/

/-- Settles O50: the update composes three one-to-one xor-shifts, all of which fix 0; the multiplier is odd; and
a bounded draw of 0 is the low end of its range. -/
theorem xorshiftZeroStateIsTheIsolatedFixedPoint : Obligations.XorshiftZeroStateIsTheIsolatedFixedPoint := by
  refine ⟨fun _ _ h => xsUpdated_injective h, fun _ => xsUpdated_eq_zero_iff,
    fun _ => mul_xsMult_eq_zero_iff.trans xsUpdated_eq_zero_iff, fun s h => ?_, fun s hv hseed => ?_⟩
  · have hdraw := drawsValue_of_holdsXs_zero h
    have hvariant := variant_ne_none_of_drawsValue hdraw
    refine ⟨(nextReturnsOneDraw s).1 _ _ hdraw, fun hlt => ?_, fun n hd hs h0 hmax => ?_⟩
    · exact (nextbOp_range _ hvariant hlt).trans (returnDraw_bounded_of_holdsXs_zero h _ _)
    · exact (rollOp_faces _ hvariant hd hs h0 hmax).trans (returnDraw_bounded_of_holdsXs_zero h _ _)
  · exact ⟨_, constructOp_valid .xs hv, rfl, congrArg some hseed⟩

/-- Settles O51: the state by induction on the draws, and the last draw's value from the state before it. -/
theorem xorshiftDrawsIterateTheUpdate : Obligations.XorshiftDrawsIterateTheUpdate := by
  rintro i s₀ s hi hv hs hxs (_ | n) hn
  · cases hn
  · obtain ⟨t, hrun, ht⟩ := nextTimes_of_holdsXs (holdsXs_construct hi hv hs hxs) n
    rw [Function.iterate_succ_apply']
    exact ⟨_, (nextTimes_succ hrun).trans (exec_next_of_holdsXs ht), rfl, rfl⟩

/-- Settles O49: the configuration holds the document's literals, and NEXT returns the draw as it is. -/
theorem xorshiftStepsAreSequential : Obligations.XorshiftStepsAreSequential :=
  fun x => ⟨xsStep_unit x, xsNextValue_unit x, fun _ => exec_next_of_holdsXs⟩

end Sys2Proof.Machine
end

/-! PROOFS of the family 43_die: a die command builds the die of its sides over a fresh generator, a fixed shape being
the general command on that shape's sides; and ROLL, past its checks, is one draw mapped to a face. -/

section
namespace Sys2Proof.Machine

/-! ### The fixed shapes (43_die.md R191, R193) -/

/-- The seven shapes, in the order of `DIE_SHAPES` (43_die.md R191). -/
def shapes : List Shape := [.d4, .d6, .d8, .d10, .d12, .d20, .d100]

/-- The command of a fixed shape, with the sides of its die. -/
def shapeRow (e : Engine) (sh : Shape) : Instr × Word := (dieFixedOf e sh, sh.sides Config.unit)

theorem mtShapeTable_eq : mtShapeTable = shapes.map (shapeRow .mt) := rfl
theorem xsShapeTable_eq : xsShapeTable = shapes.map (shapeRow .xs) := rfl

theorem exec_shapeRow_valid (e : Engine) (sh : Shape) {s : State} (h : s.ports.seedValid = true) :
    exec (shapeRow e sh).1 s = .next (s.constructed e (some (shapeRow e sh).2)) :=
  (exec_dieFixedOf e sh s).trans (dieOp_valid e _ h)

theorem exec_shapeRow_failed (e : Engine) (sh : Shape) {s : State} (h : s.ports.seedValid = false) :
    exec (shapeRow e sh).1 s = .next (s.raise .clockError) :=
  (exec_dieFixedOf e sh s).trans (dieOp_failed _ e _ h)

/-- A fixed shape is the general command with the shape's sides on `OPA` (43_die.md R193). -/
theorem exec_shapeRow_eq_exec_dieOf (e : Engine) (sh : Shape) {s : State} (h : s.ports.opa = (shapeRow e sh).2) :
    exec (shapeRow e sh).1 s = exec (dieOf e) s := by
  rw [exec_dieOf, State.dieSides, h]
  exact exec_dieFixedOf e sh s

/-! ### ROLL, check by check (43_die.md R194) -/

section
variable (c : Config) {s : State}

theorem rollOp_notConstructed (hv : s.variant = .none) : rollOp c s = .next (s.raise .notConstructed) :=
  if_pos hv

theorem rollOp_noDie (hv : s.variant ≠ .none) (hd : s.dieValid = false) : rollOp c s = .next (s.raise .noDie) :=
  (if_neg hv).trans (if_pos hd)

/-- With a die, ROLL goes on to the checks of its sides. -/
theorem rollOp_die {n : Word} (hv : s.variant ≠ .none) (hd : s.dieValid = true) (hs : s.sides = some n) :
    rollOp c s = rollSides c n s := by
  simp [rollOp, hv, hd, hs]

theorem rollOp_sidesOverflow (hv : s.variant ≠ .none) (hd : s.dieValid = true)
    (hs : s.sides = some 0xFFFFFFFFFFFFFFFF#64) : rollOp c s = .next (s.raise .sidesOverflow) :=
  (rollOp_die c hv hd hs).trans (if_pos rfl)

theorem rollOp_noSides (hv : s.variant ≠ .none) (hd : s.dieValid = true) (hs : s.sides = some 0#64) :
    rollOp c s = .next (s.raise .arithmeticError) :=
  (rollOp_die c hv hd hs).trans <| (if_neg (by decide)).trans (if_pos rfl)

end

/-! ### The face of a die -/

/-- The range of a die of `n` sides is from 1, and `n` long. -/
theorem bounded_face (n r : Word) : bounded 1#64 (n + 1#64) r = 1#64 + r % n := by
  rw [bounded, BitVec.add_sub_cancel]

/-- As a number a face does not wrap: the range of a die below the largest word ends at `n + 1`. -/
theorem toNat_face {n : Word} (h0 : n ≠ 0#64) (hmax : n ≠ 0xFFFFFFFFFFFFFFFF#64) (r : Word) :
    (1#64 + r % n).toNat = 1 + r.toNat % n.toNat := by
  have hsucc : (n + 1#64).toNat = n.toNat + 1 := by bv_omega
  have hlt : 1#64 < n + 1#64 := by bv_omega
  rw [← bounded_face, toNat_bounded hlt, hsucc]
  rfl

/-- ROLL of a die whose sides pass the checks: the generator one draw further, and the face of that draw in `RES`
(43_die.md R194). -/
theorem exec_roll_of_drawsValue {s t : State} {r n : Word} (h : drawsValue s r t) (hd : s.dieValid = true)
    (hs : s.sides = some n) (h0 : n ≠ 0#64) (hmax : n ≠ 0xFFFFFFFFFFFFFFFF#64) :
    exec .roll s = .next { t with res := some (1#64 + r % n), resValid := true } := by
  rw [← bounded_face]
  exact (rollOp_faces _ (variant_ne_none_of_drawsValue h) hd hs h0 hmax).trans (returnDraw_of_drawsValue _ h)

/-- A command that raises a fault does not complete (60_exceptions.md R222). -/
theorem fault_ne_false_of_raise {o : Result} {s t : State} {f : Cause} (h : o = .next (s.raise f))
    (ht : o = .next t) : t.fault ≠ false := by
  obtain rfl := Host.Outcome.next.inj (h.symm.trans ht)
  simp

/-- A ROLL completes only past all its checks (43_die.md R194). -/
theorem checks_of_exec_roll_completes {s t : State} (ht : exec .roll s = .next t) (hf : t.fault = false) :
    ∃ n, s.variant ≠ .none ∧ s.dieValid = true ∧ s.sides = some n ∧ n ≠ 0xFFFFFFFFFFFFFFFF#64 ∧ n ≠ 0#64 := by
  rcases rollOp_cases Config.unit s with ⟨_, hx⟩ | ⟨_, _, hx⟩ | ⟨_, _, _, hx⟩ | ⟨_, _, _, hx⟩ |
    ⟨n, hv, hd, hs, hmax, h0, _⟩ | ⟨_, _, _, hx⟩
  · exact absurd hf (fault_ne_false_of_raise hx ht)
  · exact absurd hf (fault_ne_false_of_raise hx ht)
  · exact absurd hf (fault_ne_false_of_raise hx ht)
  · exact absurd hf (fault_ne_false_of_raise hx ht)
  · exact ⟨n, hv, hd, hs, hmax, h0⟩
  · cases hx.symm.trans ht

/-- A Mersenne Twister draw has 31 bits (41_mersenne_twister.md R141). -/
theorem toNat_mtDrawnValue_lt (v : MtVec) (k : BitVec 9) : (mtDrawnValue v k).toNat < 2 ^ 31 := by
  obtain ⟨y, hy⟩ := mtDrawnValue_eq_mask v k
  rw [hy]
  exact toNat_and_mask31_lt y

/-! ### The obligations -/

/-- Settles O37: a ROLL that completes has passed its checks, so it returns the face of the generator's one draw, and
a remainder by `SIDES` is below `SIDES`. -/
theorem completedRollIsAFaceOfTheDie : Obligations.CompletedRollIsAFaceOfTheDie := by
  intro s t hg _ ht hf
  obtain ⟨n, hv, hd, hs, hmax, h0⟩ := checks_of_exec_roll_completes ht hf
  obtain ⟨r, g, hdraw⟩ := drawsValue_of_generatorHeld hg hv
  have hroll := exec_roll_of_drawsValue hdraw hd hs h0 hmax
  have hface := toNat_face h0 hmax r
  have hmod : r.toNat % n.toNat < n.toNat := Nat.mod_lt _ (BitVec.toNat_pos_of_ne_zero h0)
  exact ⟨n, r, g, _, hs, hdraw, rfl, Host.Outcome.next.inj (ht.symm.trans hroll), by omega, by omega⟩

/-- Settles O39: a draw has 31 bits, so with more sides than 2^31 it is its own remainder. -/
theorem largeMtDieReturnsOnePlusTheDraw : Obligations.LargeMtDieReturnsOnePlusTheDraw := by
  intro s v k n hmt hd hs hn hmax
  have hdrawn := toNat_mtDrawnValue_lt v k
  have h0 : n ≠ 0#64 := by
    rintro rfl
    simp at hn
  have hroll := exec_roll_of_drawsValue (.inl ⟨v, k, hmt, rfl, rfl⟩) hd hs h0 hmax
  have hface := toNat_face h0 hmax (mtDrawnValue v k)
  have hle := Nat.mod_le (mtDrawnValue v k).toNat n.toNat
  rw [BitVec.umod_eq_of_lt (BitVec.lt_def.mpr (hdrawn.trans hn))] at hroll hface
  exact ⟨hroll, by omega⟩

/-- Settles O23: both are the construct with a die of `OPA` sides, of the two variants. -/
theorem dieCommandsBuildADieOfAnySides : Obligations.DieCommandsBuildADieOfAnySides :=
  fun _ => ⟨fun hv => ⟨dieOp_valid .mt _ hv, dieOp_valid .xs _ hv⟩,
    fun hv => ⟨dieOp_failed _ .mt _ hv, dieOp_failed _ .xs _ hv⟩⟩

/-- Settles O24: a row of the tables is a shape's command with that shape's sides. -/
theorem fixedShapeCommandsBuildTheirDie : Obligations.FixedShapeCommandsBuildTheirDie := by
  intro s
  rw [mtShapeTable_eq, xsShapeTable_eq, List.forall_mem_append]
  simp only [List.forall_mem_map]
  refine ⟨fun hv => ⟨fun sh _ => ?_, fun sh _ => ?_⟩, fun hv => ⟨fun sh _ => ?_, fun sh _ => ?_⟩⟩
  · exact exec_shapeRow_valid .mt sh hv
  · exact exec_shapeRow_valid .xs sh hv
  · exact exec_shapeRow_failed .mt sh hv
  · exact exec_shapeRow_failed .xs sh hv

/-- Settles O25: the general command reads from `OPA` the sides that the shape's command names. -/
theorem fixedShapeEqualsGeneralDie : Obligations.FixedShapeEqualsGeneralDie := by
  intro s
  rw [mtShapeTable_eq, xsShapeTable_eq]
  simp only [List.forall_mem_map]
  exact ⟨fun sh _ => exec_shapeRow_eq_exec_dieOf .mt sh, fun sh _ => exec_shapeRow_eq_exec_dieOf .xs sh⟩

/-- Settles O36: the checks in the order of R194, and the face of the draw. -/
theorem rollReturnsOneFace : Obligations.RollReturnsOneFace := by
  refine fun s => ⟨fun r t n hdraw hd hs h0 hmax => ?_, fun hv => ?_, fun hv hd => ?_, fun hv hd hs => ?_,
    fun hv hd hs => ?_⟩
  · exact exec_roll_of_drawsValue hdraw hd hs h0 hmax
  · exact rollOp_notConstructed _ hv
  · exact rollOp_noDie _ hv hd
  · exact rollOp_sidesOverflow _ hv hd hs
  · exact rollOp_noSides _ hv hd hs

/-- Settles O38: the remainder by 1 is 0. -/
theorem oneSidedDieRollsOne : Obligations.OneSidedDieRollsOne := by
  intro s r t hdraw hd hs
  have hroll := exec_roll_of_drawsValue hdraw hd hs (by decide) (by decide)
  rwa [BitVec.umod_one] at hroll

end Sys2Proof.Machine
end

/-! PROOFS of the family 60_exceptions: a command raises exactly the causes whose condition holds, and a fault writes
the fault record alone; a halted unit keeps its registers over any number of steps until the host resets it. -/

section
namespace Sys2Proof.Machine

/-! ### The fault entry (60_exceptions.md R221, R222) -/

/-- The fault entry is the raised cause, with its code and the sampled command word. -/
theorem afterFault_eq_raise (c : Cause) (s : State) : afterFault s (causeCode c) s.ports.cmd = s.raise c := by
  cases c <;> rfl

/-- On ports that are idle between commands, a command that raises a cause leaves the fault entry and nothing else. -/
theorem release_raise_accept (c : Cause) {s : State} (p : Ports) (hp : s.ports = Ports.idle) :
    ((s.accept p).raise c).release = afterFault s (causeCode c) p.cmd := by
  rw [State.release, ← hp, ← afterFault_eq_raise]
  rfl

/-- A code names one cause (60_exceptions.md R221). -/
theorem Cause.code_injective : Function.Injective Cause.code := by
  intro c d
  cases c <;> cases d <;> decide

/-- The fault record tells the causes apart. -/
theorem raise_injective (s : State) : Function.Injective s.raise :=
  fun _ _ h => Cause.code_injective (congrArg State.cause h)

/-! ### When a command raises a cause -/

/-- A command is a construct or one of the four draws (30_encoding.md R73, 40_capability.md R104). -/
theorem readsSeed_or_draw (i : Instr) :
    i.format.readsSeed = true ∨ i = .next ∨ i = .nextb ∨ i = .nextb0 ∨ i = .roll := by
  cases i <;> decide

/-- A draw needs a generator (40_capability.md R101). -/
theorem exec_draw_notConstructed {i : Instr} {s : State} (hi : i.draws = true) (hv : s.variant = .none) :
    exec i s = .next (s.raise .notConstructed) := by
  rcases readsSeed_or_draw i with hseed | rfl | rfl | rfl | rfl
  · cases (draws_eq_false_of_readsSeed hseed).symm.trans hi
  · exact nextOp_notConstructed _ hv
  · exact nextbOp_notConstructed _ hv
  · exact nextb0Op_notConstructed _ hv
  · exact rollOp_notConstructed _ hv

/-- On the condition of its row a cause is raised (60_exceptions.md R221). -/
theorem exec_of_causeCondition {c : Cause} {i : Instr} {s : State} (h : causeCondition c i s) :
    exec i s = .next (s.raise c) := by
  cases c with
  | arithmeticError =>
    obtain ⟨hv, ⟨rfl, heq⟩ | ⟨rfl, h0⟩ | ⟨rfl, hd, hs⟩⟩ := h
    · exact nextbOp_empty _ hv heq
    · exact nextb0Op_empty _ hv h0
    · exact rollOp_noSides _ hv hd hs
  | clockError =>
    obtain ⟨hi, hv⟩ := h
    exact exec_construct_failed hi hv
  | illegalCommand => exact h.elim
  | notConstructed =>
    obtain ⟨hi, hv⟩ := h
    exact exec_draw_notConstructed hi hv
  | rangeInverted =>
    obtain ⟨rfl, hv, hlt⟩ := h
    exact nextbOp_inverted _ hv hlt
  | sidesOverflow =>
    obtain ⟨rfl, hv, hd, hs⟩ := h
    exact rollOp_sidesOverflow _ hv hd hs
  | noDie =>
    obtain ⟨rfl, hv, hd⟩ := h
    exact rollOp_noDie _ hv hd

@[simp] theorem State.fault_constructed (s : State) (e : Engine) (n : Option Word) :
    (s.constructed e n).fault = s.fault := by
  cases e <;> rfl

/-- A draw that is returned raises nothing. -/
theorem fault_returnDraw {c : Config} {f : Word → Word} {s t : State} (h : returnDraw c f s = .next t) :
    t.fault = s.fault := by
  obtain ⟨r, u, hd, rfl⟩ := returnDraw_cases h
  rw [draw_frame hd]
  rfl

/-- A command that leaves `FAULT` = 1 has raised a cause, on the condition of its row (60_exceptions.md R221, R225). -/
theorem exists_causeCondition_of_exec {i : Instr} {s t : State} (hf : s.fault = false) (ht : exec i s = .next t)
    (hfault : t.fault = true) : ∃ c, causeCondition c i s ∧ t = s.raise c := by
  have raised {c : Cause} (hx : exec i s = .next (s.raise c)) : t = s.raise c :=
    Host.Outcome.next.inj (ht.symm.trans hx)
  have notDrawn {f : Word → Word} : exec i s ≠ returnDraw Config.unit f s := fun hx =>
    nomatch hfault.symm.trans ((fault_returnDraw (hx.symm.trans ht)).trans hf)
  rcases readsSeed_or_draw i with hseed | rfl | rfl | rfl | rfl
  · cases hv : s.ports.seedValid with
    | false => exact ⟨.clockError, ⟨hseed, hv⟩, raised (exec_construct_failed hseed hv)⟩
    | true =>
      obtain ⟨e, _, hx⟩ := exec_construct_valid hseed
      obtain rfl := Host.Outcome.next.inj ((hx s hv).symm.trans ht)
      simp [hf] at hfault
  · rcases nextOp_cases Config.unit s with ⟨hv, hx⟩ | ⟨_, hx⟩
    · exact ⟨.notConstructed, ⟨rfl, hv⟩, raised hx⟩
    · exact absurd hx notDrawn
  · rcases nextbOp_cases Config.unit s with ⟨hv, hx⟩ | ⟨hv, hlt, hx⟩ | ⟨hv, heq, hx⟩ | ⟨_, _, hx⟩
    · exact ⟨.notConstructed, ⟨rfl, hv⟩, raised hx⟩
    · exact ⟨.rangeInverted, ⟨rfl, hv, hlt⟩, raised hx⟩
    · exact ⟨.arithmeticError, ⟨hv, .inl ⟨rfl, heq⟩⟩, raised hx⟩
    · exact absurd hx notDrawn
  · rcases nextb0Op_cases Config.unit s with ⟨hv, hx⟩ | ⟨hv, h0, hx⟩ | ⟨_, _, hx⟩
    · exact ⟨.notConstructed, ⟨rfl, hv⟩, raised hx⟩
    · exact ⟨.arithmeticError, ⟨hv, .inr (.inl ⟨rfl, h0⟩)⟩, raised hx⟩
    · exact absurd hx notDrawn
  · rcases rollOp_cases Config.unit s with ⟨hv, hx⟩ | ⟨hv, hd, hx⟩ | ⟨hv, hd, hs, hx⟩ | ⟨hv, hd, hs, hx⟩ |
      ⟨_, _, _, _, _, _, hx⟩ | ⟨_, _, _, hx⟩
    · exact ⟨.notConstructed, ⟨rfl, hv⟩, raised hx⟩
    · exact ⟨.noDie, ⟨rfl, hv, hd⟩, raised hx⟩
    · exact ⟨.sidesOverflow, ⟨rfl, hv, hd, hs⟩, raised hx⟩
    · exact ⟨.arithmeticError, ⟨hv, .inr (.inr ⟨rfl, hd, hs⟩)⟩, raised hx⟩
    · exact absurd hx notDrawn
    · cases hx.symm.trans ht

/-! ### The halted unit (60_exceptions.md R223, R224) -/

/-- A halted unit has no command to execute, whatever is pending. -/
theorem pendingCommand_halted {s : State} (h : s.fault = true) : s.pendingCommand = none := by
  cases hp : s.pendingCommand with
  | none => rfl
  | some i =>
    obtain ⟨_, _, _, _, hf, _⟩ := pendingCommand_eq_some hp
    cases h.symm.trans hf

/-- Unless the host resets it, a step of a halted unit takes up the first pending move and hands back at most a value
read. -/
theorem step_halted {s t : State} (hf : s.fault = true) (hr : s.resetPin = false)
    (hm : ∀ m ∈ s.inbox.head?, m ≠ .assertReset ∧ m ≠ .powerCycle) (ht : step s = .next t) :
    t = { s with inbox := s.inbox.tail, hostRead := t.hostRead } := by
  cases hi : s.inbox with
  | nil =>
    rw [step_wait hi, holdInReset_low hr] at ht
    cases ht
    rw [List.tail_nil, ← hi]
  | cons m rest =>
    rw [hi] at hm
    obtain ⟨hassert, hpower⟩ := hm m rfl
    rw [step_move_low hi hr] at ht
    rcases acceptMoveWith_cases ht with ⟨_, _, _, rfl⟩ | ⟨p, _, _, hx⟩ | ⟨h, _⟩ | ⟨_, rfl⟩ | ⟨h, _⟩ |
      ⟨_, _, _, rfl⟩ | ⟨_, rfl⟩ | ⟨_, rfl⟩
    · rfl
    · rw [runCommandWith_halted (s := s.setInbox rest) exec p hf] at hx
      cases hx
      rfl
    · exact absurd h hassert
    · rw [State.driveReset, ← hr]
      rfl
    · exact absurd h hpower
    · rfl
    · rfl
    · rfl

/-- A halted unit whose host has no reset pending. -/
structure State.StaysHalted (s : State) : Prop where
  halted : s.fault = true
  resetLow : s.resetPin = false
  noReset : ∀ m ∈ s.inbox, m ≠ .assertReset ∧ m ≠ .powerCycle

/-- A step keeps such a unit halted and its registers as they are, and nothing is observed of it. -/
theorem State.StaysHalted.step {s t : State} (h : s.StaysHalted) (ht : step s = .next t) :
    t.StaysHalted ∧ t.unitOf = s.unitOf ∧ observedRes s t = [] := by
  have hframe := step_halted h.halted h.resetLow (fun m hm => h.noReset m (List.mem_of_mem_head? hm)) ht
  refine ⟨?_, ?_, by simp [observedRes, pendingCommand_halted h.halted]⟩
  · rw [hframe]
    exact ⟨h.halted, h.resetLow, fun m hm => h.noReset m (List.mem_of_mem_tail hm)⟩
  · rw [hframe]
    rfl

/-- A run of one more step that answers, taken apart. -/
theorem core_run_succ_eq_next {n : ℕ} {s t : State} (h : Sys2Proof.core.run (n + 1) s = .next t) :
    ∃ u, step s = .next u ∧ Sys2Proof.core.run n u = .next t := by
  simp only [Host.Core.run] at h
  split at h
  · rename_i u hu
    exact ⟨u, hu, h⟩
  · cases h
  · cases h

/-- What is observed of one more step comes before the rest (70_reset_and_hazards.md R274). -/
theorem observedResValues_succ (n : ℕ) {s t : State} (h : step s = .next t) :
    observedResValues (n + 1) s = observedRes s t ++ observedResValues n t := by
  simp [observedResValues, h]

/-- Over any number of steps such a unit stays halted, keeps its registers, and shows no value of `RES`. -/
theorem State.StaysHalted.run (n : ℕ) {s t : State} (h : s.StaysHalted)
    (ht : Sys2Proof.core.run n s = .next t) :
    t.StaysHalted ∧ t.unitOf = s.unitOf ∧ observedResValues n s = [] := by
  induction n generalizing s with
  | zero =>
    cases ht
    exact ⟨h, rfl, rfl⟩
  | succ n ih =>
    obtain ⟨u, hu, hrun⟩ := core_run_succ_eq_next ht
    obtain ⟨hhalted, hunit, hstep⟩ := h.step hu
    obtain ⟨hend, hunit', hrest⟩ := ih hhalted hrun
    refine ⟨hend, hunit'.trans hunit, ?_⟩
    rw [observedResValues_succ n hu, hstep, hrest, List.append_nil]

/-! ### The obligations -/

/-- Settles O12: by induction on the steps, each of which keeps the unit halted; a halted state is not final. -/
theorem haltedRunNeverEndsWell : Obligations.HaltedRunNeverEndsWell := by
  intro n s t hf hr hm ht
  obtain ⟨hend, hunit, hobs⟩ := State.StaysHalted.run n ⟨hf, hr, hm⟩ ht
  exact ⟨by simp [State.isFinal, hend.halted], hunit, hobs⟩

/-- Settles O9: the command's word is illegal, or it is executed and raises a cause. -/
theorem faultsArePrecise : Obligations.FaultsArePrecise := by
  intro s t p rest hi hr hf hp ht hfault
  rw [step_issue hi hr] at ht
  rcases runCommandWith_cases ht with ⟨hhalted, _⟩ | ⟨_, _, _, rfl⟩ | ⟨i, u, _, _, hu, rfl⟩
  · cases hf.symm.trans hhalted
  · exact ⟨.illegalCommand, release_raise_accept (s := s.setInbox rest) _ p hp⟩
  · obtain ⟨c, _, rfl⟩ := exists_causeCondition_of_exec (s := (s.setInbox rest).accept p) hf hu hfault
    exact ⟨c, release_raise_accept (s := s.setInbox rest) c p hp⟩

/-- Settles O10: a command that faults does so on the condition of some cause, and the record's code says which. -/
theorem eachCauseIsRaisedOnItsCondition : Obligations.EachCauseIsRaisedOnItsCondition := by
  intro c i s hf
  rw [afterFault_eq_raise]
  refine ⟨fun hx => ?_, exec_of_causeCondition⟩
  obtain ⟨d, hcondition, heq⟩ := exists_causeCondition_of_exec hf hx rfl
  rwa [raise_injective s heq]

/-- Settles O11: a command completes with no effect and a read hands back the register; no move but the two resets
touches the registers. -/
theorem haltedUnitOnlyLeavesByReset : Obligations.HaltedUnitOnlyLeavesByReset := by
  intro s m rest hf hr hi
  obtain ⟨hstatus, hcmd, hres, _⟩ := hostReadsHandBackTheRegister s rest hr
  refine ⟨fun p hm => ?_, fun hm => hstatus (hm ▸ hi), fun hm => hcmd (hm ▸ hi), fun v hm => hres v (hm ▸ hi),
    fun t ht hassert hpower => ?_⟩
  · exact (step_issue (hm ▸ hi) hr).trans (runCommand_halted (s := s.setInbox rest) p hf)
  · rw [step_halted hf hr (by simp [hi, hassert, hpower]) ht]
    exact ⟨hf, rfl⟩

end Sys2Proof.Machine
end

/-! PROOFS of the family 70_reset_and_hazards: a unit held in reset answers every move with its reset values; a run
in which a command faults is a halted unit to its end; and a run that builds a die and rolls it completes every
command, each ROLL showing one face. -/

section
namespace Sys2Proof.Machine

/-! ### Reset and power (70_reset_and_hazards.md R260, R261) -/

/-- Reset gives every register the value of the reset table (10_state.md R35). -/
theorem atResetValues_resetUnit (s : State) : atResetValues s.resetUnit :=
  ⟨rfl, rfl, rfl, rfl, rfl, rfl, rfl, rfl, rfl, rfl, rfl⟩

/-- Reset leaves the unit in the state after reset. -/
theorem unitOf_resetUnit (s : State) : s.resetUnit.unitOf = State.reset := rfl

/-- `STATUS` mirrors registers that reset clears (95 V95). -/
theorem readStatus_resetUnit (s : State) : s.resetUnit.readStatus = 0#32 :=
  calc s.resetUnit.readStatus
    _ = s.resetUnit.unitOf.status := rfl
    _ = State.reset.status := by rw [unitOf_resetUnit]
    _ = 0#32 := rfl

/-- Releasing a `RESET` that is low does nothing. -/
theorem driveReset_low {s : State} (h : s.resetPin = false) : s.driveReset false = s := by
  rw [← h]
  rfl

/-- Holding the unit in reset leaves the host's side. -/
theorem holdInReset_hostSide (s : State) :
    s.holdInReset.resetPin = s.resetPin ∧ s.holdInReset.inbox = s.inbox ∧ s.holdInReset.hostRead = s.hostRead := by
  cases hr : s.resetPin with
  | false => simp [holdInReset_low hr, hr]
  | true => simp [holdInReset_high hr, hr]

/-- With `RESET` high a step is the answer of the unit at its reset values. -/
theorem step_move_high {s : State} {m : HostMove} {rest : List HostMove} (h : s.inbox = m :: rest)
    (hr : s.resetPin = true) : step s = acceptMove m (s.setInbox rest).resetUnit :=
  (step_move h).trans (congrArg (acceptMove m) (holdInReset_high hr))

/-- A command presented while `RESET` is high is dropped. -/
theorem acceptMove_issue_high (p : Ports) {s : State} (hr : s.resetPin = true) :
    acceptMove (.issue p) s = .next s :=
  if_pos hr

/-! ### The host's side over a run's steps (70_reset_and_hazards.md R274, R275) -/

/-- A command leaves the host's side. -/
theorem exec_leaves_hostSide {i : Instr} {s t : State} (h : exec i s = .next t) :
    t.resetPin = s.resetPin ∧ t.inbox = s.inbox := by
  rcases exec_cases i s with ⟨f, hx⟩ | ⟨e, seed, _, hx⟩ | ⟨f, _, _, hx⟩ | ⟨_, _, _, hx⟩
  · obtain rfl := Host.Outcome.next.inj (hx.symm.trans h)
    exact ⟨rfl, rfl⟩
  · rcases hx with hx | ⟨n, hx⟩ <;>
    · obtain rfl := Host.Outcome.next.inj (hx.symm.trans h)
      rw [seedGenerator_frame]
      exact ⟨rfl, rfl⟩
  · obtain ⟨r, u, hd, rfl⟩ := returnDraw_cases (hx.symm.trans h)
    rw [draw_frame hd]
    exact ⟨rfl, rfl⟩
  · cases hx.symm.trans h

/-- A command step leaves the host's side, whatever the word. -/
theorem runCommand_leaves_hostSide {p : Ports} {s t : State} (h : runCommand p s = .next t) :
    t.resetPin = s.resetPin ∧ t.inbox = s.inbox := by
  rcases runCommandWith_cases h with ⟨_, rfl⟩ | ⟨_, _, _, rfl⟩ | ⟨i, u, _, _, hu, rfl⟩
  · exact ⟨rfl, rfl⟩
  · exact ⟨rfl, rfl⟩
  · obtain ⟨hpin, hinbox⟩ := exec_leaves_hostSide hu
    exact ⟨hpin, hinbox⟩

/-- `RESET` is low, and none of the first `n` pending moves resets the unit. -/
structure State.NoResetWithin (s : State) (n : ℕ) : Prop where
  resetLow : s.resetPin = false
  noReset : ∀ m ∈ s.inbox.take n, m.resets = false

/-- A run has no reset in it. -/
theorem noResetWithin_of_isRun {n : ℕ} {s : State} (h : isRun n s = true) : s.NoResetWithin n := by
  simp only [isRun, State.startsRun, Bool.and_eq_true, Bool.not_eq_true', List.all_eq_true] at h
  obtain ⟨⟨⟨_, hr⟩, hm⟩, _⟩ := h
  exact ⟨hr, hm⟩

/-- The first of the moves is not a reset. -/
theorem State.NoResetWithin.head {n : ℕ} {s : State} (h : s.NoResetWithin (n + 1)) :
    ∀ m ∈ s.inbox.head?, m.resets = false := by
  intro m hm
  obtain ⟨rest, hi⟩ := List.head?_eq_some_iff.mp hm
  exact h.noReset m (by simp [hi])

/-- A step that does not reset the unit takes up the first pending move, and `RESET` stays low. -/
theorem step_leaves_hostSide {s t : State} (hr : s.resetPin = false) (hm : ∀ m ∈ s.inbox.head?, m.resets = false)
    (ht : step s = .next t) : t.resetPin = false ∧ t.inbox = s.inbox.tail := by
  cases hi : s.inbox with
  | nil =>
    rw [step_wait hi, holdInReset_low hr] at ht
    cases ht
    exact ⟨hr, hi⟩
  | cons m rest =>
    have hreset : m.resets = false := hm m (by simp [hi])
    rw [step_move_low hi hr] at ht
    rcases acceptMoveWith_cases ht with ⟨_, _, _, rfl⟩ | ⟨p, _, _, hx⟩ | ⟨rfl, _⟩ | ⟨_, rfl⟩ | ⟨rfl, _⟩ |
      ⟨_, _, _, rfl⟩ | ⟨_, rfl⟩ | ⟨_, rfl⟩
    · exact ⟨hr, rfl⟩
    · obtain ⟨hpin, hinbox⟩ := runCommand_leaves_hostSide hx
      exact ⟨hpin.trans hr, hinbox⟩
    · cases hreset
    · exact ⟨rfl, rfl⟩
    · cases hreset
    · exact ⟨hr, rfl⟩
    · exact ⟨hr, rfl⟩
    · exact ⟨hr, rfl⟩

/-- A step takes up one of the moves, and there is no reset in the rest. -/
theorem State.NoResetWithin.afterStep {n : ℕ} {s t : State} (h : s.NoResetWithin (n + 1)) (ht : step s = .next t) :
    t.NoResetWithin n := by
  obtain ⟨hr, hi⟩ := step_leaves_hostSide h.resetLow h.head ht
  refine ⟨hr, fun m hm => h.noReset m (List.mem_of_mem_tail ?_)⟩
  rwa [List.tail_take_eq_take_tail, ← hi]

/-- After `k` steps of a run that is longer by `n`, there is no reset in the rest. -/
theorem State.NoResetWithin.afterRun {k n : ℕ} {s t : State} (h : s.NoResetWithin (k + n))
    (ht : Sys2Proof.core.run k s = .next t) : t.NoResetWithin n := by
  induction k generalizing s with
  | zero =>
    cases ht
    rwa [Nat.zero_add] at h
  | succ k ih =>
    obtain ⟨u, hu, hrun⟩ := core_run_succ_eq_next ht
    rw [Nat.add_right_comm] at h
    exact ih (h.afterStep hu) hrun

/-- A run goes on from where its first `k` steps led. -/
theorem core_run_add {k : ℕ} (n : ℕ) {s t : State} (ht : Sys2Proof.core.run k s = .next t) :
    Sys2Proof.core.run (k + n) s = Sys2Proof.core.run n t := by
  induction k generalizing s with
  | zero =>
    cases ht
    rw [Nat.zero_add]
  | succ k ih =>
    obtain ⟨u, hu, hrun⟩ := core_run_succ_eq_next ht
    rw [Nat.add_right_comm, core_run_succ_next _ hu, ih hrun]

/-- What is observed of the first `k` steps comes before the rest (70_reset_and_hazards.md R274). -/
theorem observedResValues_add {k : ℕ} (n : ℕ) {s t : State} (ht : Sys2Proof.core.run k s = .next t) :
    observedResValues (k + n) s = observedResValues k s ++ observedResValues n t := by
  induction k generalizing s with
  | zero =>
    cases ht
    rw [Nat.zero_add]
    rfl
  | succ k ih =>
    obtain ⟨u, hu, hrun⟩ := core_run_succ_eq_next ht
    rw [Nat.add_right_comm, observedResValues_succ _ hu, ih hrun, observedResValues_succ _ hu, List.append_assoc]

/-! ### The halted unit to the end of its run (60_exceptions.md R223) -/

/-- A halted unit that is not reset keeps its registers over a step. -/
theorem State.NoResetWithin.halted_step {n : ℕ} {s t : State} (h : s.NoResetWithin (n + 1)) (hf : s.fault = true)
    (ht : step s = .next t) : t.fault = true ∧ t.unitOf = s.unitOf := by
  have hhead : ∀ m ∈ s.inbox.head?, m ≠ .assertReset ∧ m ≠ .powerCycle := by
    intro m hm
    have hreset := h.head m hm
    constructor <;> rintro rfl <;> cases hreset
  rw [step_halted hf h.resetLow hhead ht]
  exact ⟨hf, rfl⟩

/-- Nothing more is observed of such a unit, even if the model stops at a read. -/
theorem State.NoResetWithin.observedResValues_halted {n : ℕ} {s : State} (h : s.NoResetWithin n)
    (hf : s.fault = true) : observedResValues n s = [] := by
  induction n generalizing s with
  | zero => rfl
  | succ n ih =>
    cases hs : step s with
    | next t =>
      have hstep : observedRes s t = [] := by simp [observedRes, pendingCommand_halted hf]
      rw [observedResValues_succ n hs, hstep, ih (h.afterStep hs) (h.halted_step hf hs).1, List.append_nil]
    | fault e => simp [observedResValues, hs]
    | refused r => simp [observedResValues, hs]

/-- If the model answers to the end, the halted unit's registers are the same there. -/
theorem State.NoResetWithin.unitOf_run_halted {n : ℕ} {s t : State} (h : s.NoResetWithin n) (hf : s.fault = true)
    (ht : Sys2Proof.core.run n s = .next t) : t.unitOf = s.unitOf := by
  induction n generalizing s with
  | zero =>
    cases ht
    rfl
  | succ n ih =>
    obtain ⟨u, hu, hrun⟩ := core_run_succ_eq_next ht
    obtain ⟨huf, hunit⟩ := h.halted_step hf hu
    exact (ih (h.afterStep hu) huf hrun).trans hunit

/-! ### The observation of a run (70_reset_and_hazards.md R274) -/

/-- A run that is observed answers, and its final `STATUS` and `FAULT_CMD` are those of the state it ends in. -/
theorem observe_eq_some {n : ℕ} {s : State} {o : Observation} (h : observe n s = some o) :
    ∃ t, Sys2Proof.core.run n s = .next t ∧ o = ⟨observedResValues n s, t.status, t.faultCmd⟩ := by
  unfold observe at h
  split at h
  · split at h
    · rename_i t ht
      exact ⟨t, ht, (Option.some.inj h).symm⟩
    · cases h
    · cases h
  · cases h

/-- A run that answers is observed. -/
theorem observe_of_run {n : ℕ} {s t : State} (h : isRun n s = true) (ht : Sys2Proof.core.run n s = .next t) :
    observe n s = some ⟨observedResValues n s, t.status, t.faultCmd⟩ := by
  simp only [observe, h, ht, if_true]
  rfl

/-- A run is faulted when the state it ends in is halted: bit 0 of `STATUS` is `FAULT` (10_state.md R30). -/
theorem faulted_status (values : List Word) (s : State) (cmd : CmdWord) :
    Observation.faulted ⟨values, s.status, cmd⟩ = s.fault :=
  (status_fields s).1

/-- A run of which only faulted observations could be made does not end well. -/
theorem runEndsWell_eq_false {n : ℕ} {s : State} (h : ∀ o, observe n s = some o → o.faulted = true) :
    runEndsWell n s = false := by
  cases ho : observe n s with
  | none => simp [runEndsWell, ho]
  | some o => simp [runEndsWell, ho, h o ho]

/-- A run observed to end in a state that is not halted ends well. -/
theorem runEndsWell_of_run {n : ℕ} {s t : State} (h : isRun n s = true) (ht : Sys2Proof.core.run n s = .next t)
    (hf : t.fault = false) : runEndsWell n s = true := by
  simp only [runEndsWell, observe_of_run h ht, faulted_status, hf, Bool.not_false]

/-- From a state a run starts from, the steps of pending commands alone are a run. -/
theorem isRun_of_commands {s : State} {l : List Ports} (hs : s.startsRun = true) (hi : s.inbox = l.map .issue) :
    isRun l.length s = true := by
  have htake : s.inbox.take l.length = l.map .issue := by rw [hi, List.take_of_length_le (by simp)]
  have hdrop : s.inbox.drop l.length = [] := by simp [hi]
  simp [isRun, hs, htake, hdrop, runOver, HostMove.resets]

/-! ### Building a die and rolling it (43_die.md R192, R194) -/

/-- A unit that executes commands, `RESET` low and not halted, and holds a die of `n` sides. -/
structure State.ReadyToRoll (s : State) (n : Word) : Prop where
  resetLow : s.resetPin = false
  notHalted : s.fault = false
  faultCmdClear : s.faultCmd = 0#32
  generatorHeld : s.GeneratorHeld
  hasGenerator : s.variant ≠ .none
  dieValid : s.dieValid = true
  sides : s.sides = some n

/-- Only constructs build a die. -/
theorem readsSeed_of_dieSidesOf {i : Instr} {p : Ports} {n : Word} (h : dieSidesOf i p = some n) :
    i.format.readsSeed = true := by
  rcases readsSeed_or_draw i with hseed | rfl | rfl | rfl | rfl
  · exact hseed
  all_goals cases h

/-- A construct of a die leaves one that can be rolled. -/
theorem readyToRoll_constructed (e : Engine) (n : Word) {s : State} (hr : s.resetPin = false)
    (hf : s.fault = false) (hcmd : s.faultCmd = 0#32) : (s.constructed e (some n)).ReadyToRoll n where
  resetLow := by cases e <;> exact hr
  notHalted := by cases e <;> exact hf
  faultCmdClear := by cases e <;> exact hcmd
  generatorHeld := (generatorHeld_seedGenerator Config.fits_unit e s.ports.seed s).1
  hasGenerator := (generatorHeld_seedGenerator Config.fits_unit e s.ports.seed s).2
  dieValid := rfl
  sides := rfl

/-- A die command on a valid seed, first of the pending moves of a run, completes; nothing of `RES` is observed. -/
theorem step_dieCommand {s : State} {p : Ports} {i : Instr} {n : Word} {rest : List HostMove}
    (hs : s.startsRun = true) (hi : s.inbox = .issue p :: rest) (hd : decode p.cmd = .ok i)
    (hn : dieSidesOf i p = some n) (hv : p.seedValid = true) :
    ∃ t, step s = .next t ∧ t.ReadyToRoll n ∧ t.inbox = rest ∧ observedRes s t = [] := by
  simp only [State.startsRun, Bool.and_eq_true, Bool.not_eq_true', decide_eq_true_eq] at hs
  obtain ⟨hreset, hr⟩ := hs
  have hf : s.fault = false := congrArg State.fault hreset
  have hcmd : s.faultCmd = 0#32 := congrArg State.faultCmd hreset
  have hseed := readsSeed_of_dieSidesOf hn
  obtain ⟨e, _, hx⟩ := exec_construct_valid hseed
  have hexec : exec i ((s.setInbox rest).accept p) = .next (((s.setInbox rest).accept p).constructed e (some n)) :=
    hn ▸ hx ((s.setInbox rest).accept p) hv
  refine ⟨(((s.setInbox rest).accept p).constructed e (some n)).release, ?_, ?_, ?_, ?_⟩
  · rw [step_issue hi hr, runCommand_legal (s := s.setInbox rest) p hf hd, hexec]
    rfl
  · exact { readyToRoll_constructed (s := (s.setInbox rest).accept p) e n hr hf hcmd with }
  · exact (exec_leaves_hostSide hexec).2
  · simp [observedRes, pendingCommand_of_issue hi hr hf hd, draws_eq_false_of_readsSeed hseed]

/-- ROLL on such a unit returns a face of the die, and leaves the die to be rolled again. -/
theorem State.ReadyToRoll.exec_roll {s : State} {n : Word} (h : s.ReadyToRoll n) (h0 : n ≠ 0#64)
    (hmax : n ≠ 0xFFFFFFFFFFFFFFFF#64) :
    ∃ t x, exec .roll s = .next t ∧ t.ReadyToRoll n ∧ t.res = some x ∧ 1 ≤ x.toNat ∧ x.toNat ≤ n.toNat := by
  obtain ⟨r, g, hdraw⟩ := drawsValue_of_generatorHeld h.generatorHeld h.hasGenerator
  have hroll := exec_roll_of_drawsValue hdraw h.dieValid h.sides h0 hmax
  have hface := toNat_face h0 hmax r
  have hmod : r.toNat % n.toNat < n.toNat := Nat.mod_lt _ (BitVec.toNat_pos_of_ne_zero h0)
  have hd := draw_of_drawsValue hdraw
  have hframe := draw_frame hd
  have hheld := generatorHeld_draw Config.fits_unit h.generatorHeld hd
  refine ⟨_, _, hroll, ?_, rfl, by omega, by omega⟩
  exact {
    resetLow := (congrArg State.resetPin hframe).trans h.resetLow
    notHalted := (congrArg State.fault hframe).trans h.notHalted
    faultCmdClear := (congrArg State.faultCmd hframe).trans h.faultCmdClear
    generatorHeld := hheld
    hasGenerator := fun hv => h.hasGenerator ((congrArg State.variant hframe).symm.trans hv)
    dieValid := (congrArg State.dieValid hframe).trans h.dieValid
    sides := (congrArg State.sides hframe).trans h.sides }

/-- A pending ROLL completes, and one face is observed of it. -/
theorem State.ReadyToRoll.step_roll {s : State} {n : Word} {q : Ports} {rest : List HostMove}
    (h : s.ReadyToRoll n) (h0 : n ≠ 0#64) (hmax : n ≠ 0xFFFFFFFFFFFFFFFF#64)
    (hi : s.inbox = .issue q :: rest) (hd : decode q.cmd = .ok .roll) :
    ∃ t x, step s = .next t ∧ t.ReadyToRoll n ∧ t.inbox = rest ∧ observedRes s t = [x] ∧
      1 ≤ x.toNat ∧ x.toNat ≤ n.toNat := by
  have haccept : ((s.setInbox rest).accept q).ReadyToRoll n := { h with }
  obtain ⟨u, x, hexec, hready, hres, hface⟩ := haccept.exec_roll h0 hmax
  refine ⟨u.release, x, ?_, { hready with }, (exec_leaves_hostSide hexec).2, ?_, hface⟩
  · rw [step_issue hi h.resetLow, runCommand_legal (s := s.setInbox rest) q h.notHalted hd, hexec]
    rfl
  · exact observedRes_draw (pendingCommand_of_issue hi h.resetLow h.notHalted hd) rfl hready.notHalted hres

/-- Any number of pending ROLLs complete, and one face is observed a ROLL. -/
theorem State.ReadyToRoll.run_rolls {s : State} {n : Word} {rolls : List Ports} (h : s.ReadyToRoll n)
    (h0 : n ≠ 0#64) (hmax : n ≠ 0xFFFFFFFFFFFFFFFF#64) (hi : s.inbox = rolls.map .issue)
    (hd : ∀ q ∈ rolls, decode q.cmd = .ok .roll) :
    ∃ t, Sys2Proof.core.run rolls.length s = .next t ∧ t.ReadyToRoll n ∧
      (observedResValues rolls.length s).length = rolls.length ∧
      ∀ x ∈ observedResValues rolls.length s, 1 ≤ x.toNat ∧ x.toNat ≤ n.toNat := by
  induction rolls generalizing s with
  | nil => exact ⟨s, rfl, h, rfl, by simp [observedResValues]⟩
  | cons q rolls ih =>
    rw [List.forall_mem_cons] at hd
    obtain ⟨u, x, hu, hready, hinbox, hobs, hface⟩ := h.step_roll h0 hmax hi hd.1
    obtain ⟨t, hrun, hend, hlength, hfaces⟩ := ih hready hinbox hd.2
    rw [List.length_cons, core_run_succ_next _ hu, observedResValues_succ _ hu, hobs]
    exact ⟨t, hrun, hend, congrArg (· + 1) hlength, List.forall_mem_cons.mpr ⟨hface, hfaces⟩⟩

/-! ### The obligations -/

/-- Settles O56: the steps after the `k`th are those of a halted unit, as a run has no reset in it. -/
theorem runWithAFaultNeverEndsWell : Obligations.RunWithAFaultNeverEndsWell := by
  intro n k s t hrun hk ht hf
  obtain ⟨m, rfl⟩ := Nat.exists_eq_add_of_le hk
  have hrest : t.NoResetWithin m := (noResetWithin_of_isRun hrun).afterRun ht
  have hrecord : ∀ o, observe (k + m) s = some o →
      o.faulted = true ∧ o.status = t.status ∧ o.faultCmd = t.faultCmd := by
    intro o ho
    obtain ⟨u, hu, rfl⟩ := observe_eq_some ho
    rw [core_run_add m ht] at hu
    have hunit := hrest.unitOf_run_halted hf hu
    have hfault : u.fault = t.fault := (congrArg State.fault hunit :)
    exact ⟨(faulted_status _ u _).trans (hfault.trans hf), (congrArg State.status hunit :),
      (congrArg State.faultCmd hunit :)⟩
  refine ⟨runEndsWell_eq_false fun o ho => (hrecord o ho).1, ?_, hrecord⟩
  rw [observedResValues_add m ht, hrest.observedResValues_halted hf, List.append_nil]

/-- Settles O57: the die command leaves a die that can be rolled, and each ROLL leaves it so. -/
theorem runOfADieEndsWellAndObservesItsRolls : Obligations.RunOfADieEndsWellAndObservesItsRolls := by
  intro s p i n rolls hs hi hd hn hv h0 hmax hrolls
  obtain ⟨u, hu, hready, hinbox, hobs⟩ := step_dieCommand hs hi hd hn hv
  obtain ⟨t, ht, hend, hlength, hfaces⟩ := hready.run_rolls h0 hmax hinbox hrolls
  have hrun : isRun (rolls.length + 1) s = true := isRun_of_commands (l := p :: rolls) hs hi
  rw [← core_run_succ_next _ hu] at ht
  have hvalues : observedResValues (rolls.length + 1) s = observedResValues rolls.length u := by
    rw [observedResValues_succ _ hu, hobs, List.nil_append]
  refine ⟨hrun, runEndsWell_of_run hrun ht hend.notHalted, _, observe_of_run hrun ht, ?_, ?_, hend.faultCmdClear⟩
  · rw [hvalues, hlength]
  · rwa [hvalues]

/-- Settles O13: whatever the move, the unit that answers it is at its reset values. -/
theorem resetGivesEveryRegisterItsResetValue : Obligations.ResetGivesEveryRegisterItsResetValue := by
  refine fun s => ⟨fun m rest hi hm => ?_, fun hi hr => ?_, fun rest hi hr => ?_, fun rest hi hr => ?_,
    fun rest hi hr => ?_, fun rest hi hr => ?_, fun rest hi hr => ?_⟩
  · rcases hm with rfl | ⟨hr, rfl | ⟨p, rfl⟩⟩
    · obtain ⟨_, hinbox, hread⟩ := holdInReset_hostSide (s.setInbox rest)
      exact ⟨_, step_move hi, atResetValues_resetUnit _, rfl, hinbox, hread⟩
    · exact ⟨_, step_move_high hi hr, atResetValues_resetUnit _, hr, rfl, rfl⟩
    · exact ⟨_, (step_move_high hi hr).trans (acceptMove_issue_high p hr), atResetValues_resetUnit _, hr, rfl, rfl⟩
  · exact ⟨_, (step_wait hi).trans (congrArg _ (holdInReset_high hr)), atResetValues_resetUnit s, hr, hi, rfl⟩
  · exact ⟨_, step_move_high hi hr, atResetValues_resetUnit (s.setInbox rest), rfl, rfl, rfl⟩
  · exact (step_move_low hi hr).trans (congrArg _ (driveReset_low (s := s.setInbox rest) hr))
  · exact ⟨_, step_move_high hi hr, atResetValues_resetUnit (s.setInbox rest), hr, rfl,
      congrArg (some <| HostReply.status ·) (readStatus_resetUnit _)⟩
  · exact ⟨_, step_move_high hi hr, atResetValues_resetUnit (s.setInbox rest), hr, rfl, rfl⟩
  · exact (step_move_high hi hr).trans (acceptMove_readRes_invalid rfl)

/-- Settles O14: a power cycle resets the unit, at either level of `RESET`. -/
theorem powerOnActsAsReset : Obligations.PowerOnActsAsReset := by
  intro s rest hi
  obtain ⟨hpin, hinbox, _⟩ := holdInReset_hostSide (s.setInbox rest)
  exact ⟨_, step_move hi, unitOf_resetUnit _, hinbox, hpin⟩

end Sys2Proof.Machine
end

section
/-! PROOFS. The family other: the unit with no move pending (70_reset_and_hazards.md R262). -/

namespace Sys2Proof.Machine

/-- Settles O8: a wait only holds the unit in reset, and with `RESET` low nothing is held. -/
theorem unitWithoutPendingMoveWaits : Obligations.UnitWithoutPendingMoveWaits := by
  intro s hi hr
  rw [step_wait hi, holdInReset_low hr]

end Sys2Proof.Machine
end
